-- ==== Sys2Proof/Word.lean ====
section
/-! DEFINITION. The word types of RV32IM (spec R5-T: XLEN = 32, 32-bit addresses). -/

namespace Sys2Proof

/-- An XLEN-bit value, XLEN = 32 (R5, R20, D1). Also a byte address and an instruction word. -/
abbrev Word := BitVec 32

/-- One byte of memory (R32, R50). -/
abbrev Byte := BitVec 8

/-- A 64-bit counter value (R27, R28, R29). -/
abbrev Counter := BitVec 64

/-- An integer register number: the 5-bit fields rd, rs1, rs2 (R20, R82). -/
abbrev RegId := BitVec 5

/-- A CSR number: the 12-bit csr field (R26, R95). -/
abbrev CsrId := BitVec 12

end Sys2Proof
end

