-- ==== Sys2Proof/Syntax.lean ====
section
/-! DEFINITION. The instructions: one constructor per row of spec/opcode_table.json, in the table's order, with the
operand fields of the row's format (R82 to R97, R277). The rows the table marks listed_only are instructions other
hardware has: here each raises IllegalInstruction (R100, 47_listed_only.md). -/

namespace Sys2Proof

/-- The rows of spec/opcode_table.json. Register operands are the 5-bit specifier fields; immediates are the bits the
encoding holds: `imm` of a branch is the 13-bit byte offset of R91 and of JAL the 21-bit byte offset of R93, both with
bit 0 zero (WellFormed checks it). -/
inductive Instr where
  -- Integer computational, control transfer, loads, stores (RV32I), in the order of table R99-T
  /-- LUI, R130. -/
  | lui (rd : RegId) (imm : BitVec 20)
  /-- AUIPC, R131. -/
  | auipc (rd : RegId) (imm : BitVec 20)
  /-- JAL, R151. -/
  | jal (rd : RegId) (imm : BitVec 21)
  /-- JALR, R152. -/
  | jalr (rd rs1 : RegId) (imm : BitVec 12)
  /-- BEQ, R153. -/
  | beq (rs1 rs2 : RegId) (imm : BitVec 13)
  /-- BNE, R154. -/
  | bne (rs1 rs2 : RegId) (imm : BitVec 13)
  /-- BLT, R155. -/
  | blt (rs1 rs2 : RegId) (imm : BitVec 13)
  /-- BGE, R156. -/
  | bge (rs1 rs2 : RegId) (imm : BitVec 13)
  /-- BLTU, R157. -/
  | bltu (rs1 rs2 : RegId) (imm : BitVec 13)
  /-- BGEU, R158. -/
  | bgeu (rs1 rs2 : RegId) (imm : BitVec 13)
  /-- LB, R171. -/
  | lb (rd rs1 : RegId) (imm : BitVec 12)
  /-- LH, R172. -/
  | lh (rd rs1 : RegId) (imm : BitVec 12)
  /-- LW, R173. -/
  | lw (rd rs1 : RegId) (imm : BitVec 12)
  /-- LBU, R174. -/
  | lbu (rd rs1 : RegId) (imm : BitVec 12)
  /-- LHU, R175. -/
  | lhu (rd rs1 : RegId) (imm : BitVec 12)
  /-- SB, R176. -/
  | sb (rs1 rs2 : RegId) (imm : BitVec 12)
  /-- SH, R177. -/
  | sh (rs1 rs2 : RegId) (imm : BitVec 12)
  /-- SW, R178. -/
  | sw (rs1 rs2 : RegId) (imm : BitVec 12)
  /-- ADDI, R121. -/
  | addi (rd rs1 : RegId) (imm : BitVec 12)
  /-- SLTI, R122. -/
  | slti (rd rs1 : RegId) (imm : BitVec 12)
  /-- SLTIU, R123. -/
  | sltiu (rd rs1 : RegId) (imm : BitVec 12)
  /-- XORI, R126. -/
  | xori (rd rs1 : RegId) (imm : BitVec 12)
  /-- ORI, R125. -/
  | ori (rd rs1 : RegId) (imm : BitVec 12)
  /-- ANDI, R124. -/
  | andi (rd rs1 : RegId) (imm : BitVec 12)
  /-- SLLI, R127. -/
  | slli (rd rs1 : RegId) (shamt : BitVec 5)
  /-- SRLI, R128. -/
  | srli (rd rs1 : RegId) (shamt : BitVec 5)
  /-- SRAI, R129. -/
  | srai (rd rs1 : RegId) (shamt : BitVec 5)
  /-- ADD, R132. -/
  | add (rd rs1 rs2 : RegId)
  /-- SUB, R133. -/
  | sub (rd rs1 rs2 : RegId)
  /-- SLL, R134. -/
  | sll (rd rs1 rs2 : RegId)
  /-- SLT, R135. -/
  | slt (rd rs1 rs2 : RegId)
  /-- SLTU, R136. -/
  | sltu (rd rs1 rs2 : RegId)
  /-- XOR, R137. -/
  | xor (rd rs1 rs2 : RegId)
  /-- SRL, R138. -/
  | srl (rd rs1 rs2 : RegId)
  /-- SRA, R139. -/
  | sra (rd rs1 rs2 : RegId)
  /-- OR, R140. -/
  | or (rd rs1 rs2 : RegId)
  /-- AND, R141. -/
  | and (rd rs1 rs2 : RegId)
  /-- FENCE, R190. -/
  | fence (pred succ : BitVec 4)
  /-- FENCE.I, R191. -/
  | fenceI
  /-- ECALL, R230. -/
  | ecall
  /-- EBREAK, R231. -/
  | ebreak
  /-- CSRRW, R201. -/
  | csrrw (rd : RegId) (csr : CsrId) (rs1 : RegId)
  /-- CSRRS, R202. -/
  | csrrs (rd : RegId) (csr : CsrId) (rs1 : RegId)
  /-- CSRRC, R203. -/
  | csrrc (rd : RegId) (csr : CsrId) (rs1 : RegId)
  /-- CSRRWI, R204. -/
  | csrrwi (rd : RegId) (csr : CsrId) (uimm : BitVec 5)
  /-- CSRRSI, R205. -/
  | csrrsi (rd : RegId) (csr : CsrId) (uimm : BitVec 5)
  /-- CSRRCI, R206. -/
  | csrrci (rd : RegId) (csr : CsrId) (uimm : BitVec 5)
  -- M extension (46_muldiv.md)
  /-- MUL, R241. -/
  | mul (rd rs1 rs2 : RegId)
  /-- MULH, R242. -/
  | mulh (rd rs1 rs2 : RegId)
  /-- MULHSU, R243. -/
  | mulhsu (rd rs1 rs2 : RegId)
  /-- MULHU, R244. -/
  | mulhu (rd rs1 rs2 : RegId)
  /-- DIV, R245. -/
  | div (rd rs1 rs2 : RegId)
  /-- DIVU, R246. -/
  | divu (rd rs1 rs2 : RegId)
  /-- REM, R247. -/
  | rem (rd rs1 rs2 : RegId)
  /-- REMU, R248. -/
  | remu (rd rs1 rs2 : RegId)
  -- RV64I rows, listed only (R270)
  /-- LWU, R270. -/
  | lwu (rd rs1 : RegId) (imm : BitVec 12)
  /-- LD, R270. -/
  | ld (rd rs1 : RegId) (imm : BitVec 12)
  /-- SD, R270. -/
  | sd (rs1 rs2 : RegId) (imm : BitVec 12)
  /-- SLLI (RV64), R270. -/
  | slliRv64 (rd rs1 : RegId) (shamt : BitVec 6)
  /-- SRLI (RV64), R270. -/
  | srliRv64 (rd rs1 : RegId) (shamt : BitVec 6)
  /-- SRAI (RV64), R270. -/
  | sraiRv64 (rd rs1 : RegId) (shamt : BitVec 6)
  /-- ADDIW, R270. -/
  | addiw (rd rs1 : RegId) (imm : BitVec 12)
  /-- SLLIW, R270. -/
  | slliw (rd rs1 : RegId) (shamt : BitVec 5)
  /-- SRLIW, R270. -/
  | srliw (rd rs1 : RegId) (shamt : BitVec 5)
  /-- SRAIW, R270. -/
  | sraiw (rd rs1 : RegId) (shamt : BitVec 5)
  /-- ADDW, R270. -/
  | addw (rd rs1 rs2 : RegId)
  /-- SUBW, R270. -/
  | subw (rd rs1 rs2 : RegId)
  /-- SLLW, R270. -/
  | sllw (rd rs1 rs2 : RegId)
  /-- SRLW, R270. -/
  | srlw (rd rs1 rs2 : RegId)
  /-- SRAW, R270. -/
  | sraw (rd rs1 rs2 : RegId)
  -- RV64M rows, listed only (R252 to R256)
  /-- MULW, R252. -/
  | mulw (rd rs1 rs2 : RegId)
  /-- DIVW, R253. -/
  | divw (rd rs1 rs2 : RegId)
  /-- DIVUW, R254. -/
  | divuw (rd rs1 rs2 : RegId)
  /-- REMW, R255. -/
  | remw (rd rs1 rs2 : RegId)
  /-- REMUW, R256. -/
  | remuw (rd rs1 rs2 : RegId)
  -- RV32A rows, listed only (R271)
  /-- LR.W, R271. -/
  | lrW (rd rs1 : RegId) (aq rl : BitVec 1)
  /-- SC.W, R271. -/
  | scW (rd rs1 rs2 : RegId) (aq rl : BitVec 1)
  /-- AMOSWAP.W, R271. -/
  | amoswapW (rd rs1 rs2 : RegId) (aq rl : BitVec 1)
  /-- AMOADD.W, R271. -/
  | amoaddW (rd rs1 rs2 : RegId) (aq rl : BitVec 1)
  /-- AMOXOR.W, R271. -/
  | amoxorW (rd rs1 rs2 : RegId) (aq rl : BitVec 1)
  /-- AMOAND.W, R271. -/
  | amoandW (rd rs1 rs2 : RegId) (aq rl : BitVec 1)
  /-- AMOOR.W, R271. -/
  | amoorW (rd rs1 rs2 : RegId) (aq rl : BitVec 1)
  /-- AMOMIN.W, R271. -/
  | amominW (rd rs1 rs2 : RegId) (aq rl : BitVec 1)
  /-- AMOMAX.W, R271. -/
  | amomaxW (rd rs1 rs2 : RegId) (aq rl : BitVec 1)
  /-- AMOMINU.W, R271. -/
  | amominuW (rd rs1 rs2 : RegId) (aq rl : BitVec 1)
  /-- AMOMAXU.W, R271. -/
  | amomaxuW (rd rs1 rs2 : RegId) (aq rl : BitVec 1)
  -- RV64A rows, listed only (R272)
  /-- LR.D, R272. -/
  | lrD (rd rs1 : RegId) (aq rl : BitVec 1)
  /-- SC.D, R272. -/
  | scD (rd rs1 rs2 : RegId) (aq rl : BitVec 1)
  /-- AMOSWAP.D, R272. -/
  | amoswapD (rd rs1 rs2 : RegId) (aq rl : BitVec 1)
  /-- AMOADD.D, R272. -/
  | amoaddD (rd rs1 rs2 : RegId) (aq rl : BitVec 1)
  /-- AMOXOR.D, R272. -/
  | amoxorD (rd rs1 rs2 : RegId) (aq rl : BitVec 1)
  /-- AMOAND.D, R272. -/
  | amoandD (rd rs1 rs2 : RegId) (aq rl : BitVec 1)
  /-- AMOOR.D, R272. -/
  | amoorD (rd rs1 rs2 : RegId) (aq rl : BitVec 1)
  /-- AMOMIN.D, R272. -/
  | amominD (rd rs1 rs2 : RegId) (aq rl : BitVec 1)
  /-- AMOMAX.D, R272. -/
  | amomaxD (rd rs1 rs2 : RegId) (aq rl : BitVec 1)
  /-- AMOMINU.D, R272. -/
  | amominuD (rd rs1 rs2 : RegId) (aq rl : BitVec 1)
  /-- AMOMAXU.D, R272. -/
  | amomaxuD (rd rs1 rs2 : RegId) (aq rl : BitVec 1)
  -- RV32F rows, listed only (R273)
  /-- FLW, R273. -/
  | flw (rd rs1 : RegId) (imm : BitVec 12)
  /-- FSW, R273. -/
  | fsw (rs1 rs2 : RegId) (imm : BitVec 12)
  /-- FMADD.S, R273. -/
  | fmaddS (rd rs1 rs2 rs3 : RegId) (rm : BitVec 3)
  /-- FMSUB.S, R273. -/
  | fmsubS (rd rs1 rs2 rs3 : RegId) (rm : BitVec 3)
  /-- FNMSUB.S, R273. -/
  | fnmsubS (rd rs1 rs2 rs3 : RegId) (rm : BitVec 3)
  /-- FNMADD.S, R273. -/
  | fnmaddS (rd rs1 rs2 rs3 : RegId) (rm : BitVec 3)
  /-- FADD.S, R273. -/
  | faddS (rd rs1 rs2 : RegId) (rm : BitVec 3)
  /-- FSUB.S, R273. -/
  | fsubS (rd rs1 rs2 : RegId) (rm : BitVec 3)
  /-- FMUL.S, R273. -/
  | fmulS (rd rs1 rs2 : RegId) (rm : BitVec 3)
  /-- FDIV.S, R273. -/
  | fdivS (rd rs1 rs2 : RegId) (rm : BitVec 3)
  /-- FSQRT.S, R273. -/
  | fsqrtS (rd rs1 : RegId) (rm : BitVec 3)
  /-- FSGNJ.S, R273. -/
  | fsgnjS (rd rs1 rs2 : RegId)
  /-- FSGNJN.S, R273. -/
  | fsgnjnS (rd rs1 rs2 : RegId)
  /-- FSGNJX.S, R273. -/
  | fsgnjxS (rd rs1 rs2 : RegId)
  /-- FMIN.S, R273. -/
  | fminS (rd rs1 rs2 : RegId)
  /-- FMAX.S, R273. -/
  | fmaxS (rd rs1 rs2 : RegId)
  /-- FCVT.W.S, R273. -/
  | fcvtWS (rd rs1 : RegId) (rm : BitVec 3)
  /-- FCVT.WU.S, R273. -/
  | fcvtWuS (rd rs1 : RegId) (rm : BitVec 3)
  /-- FMV.X.W, R273. -/
  | fmvXW (rd rs1 : RegId)
  /-- FEQ.S, R273. -/
  | feqS (rd rs1 rs2 : RegId)
  /-- FLT.S, R273. -/
  | fltS (rd rs1 rs2 : RegId)
  /-- FLE.S, R273. -/
  | fleS (rd rs1 rs2 : RegId)
  /-- FCLASS.S, R273. -/
  | fclassS (rd rs1 : RegId)
  /-- FCVT.S.W, R273. -/
  | fcvtSW (rd rs1 : RegId) (rm : BitVec 3)
  /-- FCVT.S.WU, R273. -/
  | fcvtSWu (rd rs1 : RegId) (rm : BitVec 3)
  /-- FMV.W.X, R273. -/
  | fmvWX (rd rs1 : RegId)
  -- RV64F rows, listed only (R274)
  /-- FCVT.L.S, R274. -/
  | fcvtLS (rd rs1 : RegId) (rm : BitVec 3)
  /-- FCVT.LU.S, R274. -/
  | fcvtLuS (rd rs1 : RegId) (rm : BitVec 3)
  /-- FCVT.S.L, R274. -/
  | fcvtSL (rd rs1 : RegId) (rm : BitVec 3)
  /-- FCVT.S.LU, R274. -/
  | fcvtSLu (rd rs1 : RegId) (rm : BitVec 3)
  -- RV32D rows, listed only (R275)
  /-- FLD, R275. -/
  | fld (rd rs1 : RegId) (imm : BitVec 12)
  /-- FSD, R275. -/
  | fsd (rs1 rs2 : RegId) (imm : BitVec 12)
  /-- FMADD.D, R275. -/
  | fmaddD (rd rs1 rs2 rs3 : RegId) (rm : BitVec 3)
  /-- FMSUB.D, R275. -/
  | fmsubD (rd rs1 rs2 rs3 : RegId) (rm : BitVec 3)
  /-- FNMSUB.D, R275. -/
  | fnmsubD (rd rs1 rs2 rs3 : RegId) (rm : BitVec 3)
  /-- FNMADD.D, R275. -/
  | fnmaddD (rd rs1 rs2 rs3 : RegId) (rm : BitVec 3)
  /-- FADD.D, R275. -/
  | faddD (rd rs1 rs2 : RegId) (rm : BitVec 3)
  /-- FSUB.D, R275. -/
  | fsubD (rd rs1 rs2 : RegId) (rm : BitVec 3)
  /-- FMUL.D, R275. -/
  | fmulD (rd rs1 rs2 : RegId) (rm : BitVec 3)
  /-- FDIV.D, R275. -/
  | fdivD (rd rs1 rs2 : RegId) (rm : BitVec 3)
  /-- FSQRT.D, R275. -/
  | fsqrtD (rd rs1 : RegId) (rm : BitVec 3)
  /-- FSGNJ.D, R275. -/
  | fsgnjD (rd rs1 rs2 : RegId)
  /-- FSGNJN.D, R275. -/
  | fsgnjnD (rd rs1 rs2 : RegId)
  /-- FSGNJX.D, R275. -/
  | fsgnjxD (rd rs1 rs2 : RegId)
  /-- FMIN.D, R275. -/
  | fminD (rd rs1 rs2 : RegId)
  /-- FMAX.D, R275. -/
  | fmaxD (rd rs1 rs2 : RegId)
  /-- FCVT.S.D, R275. -/
  | fcvtSD (rd rs1 : RegId) (rm : BitVec 3)
  /-- FCVT.D.S, R275. -/
  | fcvtDS (rd rs1 : RegId) (rm : BitVec 3)
  /-- FEQ.D, R275. -/
  | feqD (rd rs1 rs2 : RegId)
  /-- FLT.D, R275. -/
  | fltD (rd rs1 rs2 : RegId)
  /-- FLE.D, R275. -/
  | fleD (rd rs1 rs2 : RegId)
  /-- FCLASS.D, R275. -/
  | fclassD (rd rs1 : RegId)
  /-- FCVT.W.D, R275. -/
  | fcvtWD (rd rs1 : RegId) (rm : BitVec 3)
  /-- FCVT.WU.D, R275. -/
  | fcvtWuD (rd rs1 : RegId) (rm : BitVec 3)
  /-- FCVT.D.W, R275. -/
  | fcvtDW (rd rs1 : RegId) (rm : BitVec 3)
  /-- FCVT.D.WU, R275. -/
  | fcvtDWu (rd rs1 : RegId) (rm : BitVec 3)
  -- RV64D rows, listed only (R276)
  /-- FCVT.L.D, R276. -/
  | fcvtLD (rd rs1 : RegId) (rm : BitVec 3)
  /-- FCVT.LU.D, R276. -/
  | fcvtLuD (rd rs1 : RegId) (rm : BitVec 3)
  /-- FMV.X.D, R276. -/
  | fmvXD (rd rs1 : RegId)
  /-- FCVT.D.L, R276. -/
  | fcvtDL (rd rs1 : RegId) (rm : BitVec 3)
  /-- FCVT.D.LU, R276. -/
  | fcvtDLu (rd rs1 : RegId) (rm : BitVec 3)
  /-- FMV.D.X, R276. -/
  | fmvDX (rd rs1 : RegId)
  deriving DecidableEq, Repr

end Sys2Proof
end

