-- ==== Sys2Proof/Decode.lean ====
section
/-! DEFINITION. Reading an instruction word (the fields and immediates of R82 to R97, the opcode map R98 and the select
bits of table R99-T; the listed-only rows of 46_muldiv.md and 47_listed_only.md), rejecting by name what is no row
(R100), and, after it, the encoder written from the same tables. -/

namespace Sys2Proof

/-! ## Fields -/

/-- `v` put at bits `lo` and up of an `m`-bit value, the other bits zero: `imm[11:5] = inst[31:25]` is
`place 5 (inst[31:25])`. -/
def place {n : Nat} (m lo : Nat) (v : BitVec n) : BitVec m := v.setWidth m <<< lo

/-- opcode = inst[6:0] (R82). -/
def Field.opcode (w : Word) : BitVec 7 := w.extractLsb' 0 7
/-- rd = inst[11:7] (R82). -/
def Field.rd (w : Word) : RegId := w.extractLsb' 7 5
/-- funct3 = inst[14:12] (R82); the rm field of the F and D rows. -/
def Field.funct3 (w : Word) : BitVec 3 := w.extractLsb' 12 3
/-- rs1 = inst[19:15] (R82); the uimm field of the immediate CSR forms (R95). -/
def Field.rs1 (w : Word) : RegId := w.extractLsb' 15 5
/-- rs2 = inst[24:20] (R82); the shamt field of the shift-immediate form (R94). -/
def Field.rs2 (w : Word) : RegId := w.extractLsb' 20 5
/-- funct7 = inst[31:25] (R82). -/
def Field.funct7 (w : Word) : BitVec 7 := w.extractLsb' 25 7
/-- inst[31:20]: the I-immediate (R84), csr (R95) or funct12 (R97). -/
def Field.iImm (w : Word) : BitVec 12 := w.extractLsb' 20 12
/-- S-immediate bits: imm[11:5] = inst[31:25], imm[4:0] = inst[11:7] (R85, R90). -/
def Field.sImm (w : Word) : BitVec 12 :=
  place 12 5 (w.extractLsb' 25 7) ||| place 12 0 (w.extractLsb' 7 5)
/-- B-immediate bits: imm[12] = inst[31], imm[11] = inst[7], imm[10:5] = inst[30:25], imm[4:1] = inst[11:8], imm[0] = 0
(R86, R91). -/
def Field.bImm (w : Word) : BitVec 13 :=
  place 13 12 (w.extractLsb' 31 1) ||| place 13 11 (w.extractLsb' 7 1) |||
    place 13 5 (w.extractLsb' 25 6) ||| place 13 1 (w.extractLsb' 8 4)
/-- U-immediate bits: inst[31:12] (R87, R92). -/
def Field.uImm (w : Word) : BitVec 20 := w.extractLsb' 12 20
/-- J-immediate bits: imm[20] = inst[31], imm[19:12] = inst[19:12], imm[11] = inst[20], imm[10:1] = inst[30:21],
imm[0] = 0 (R88, R93). -/
def Field.jImm (w : Word) : BitVec 21 :=
  place 21 20 (w.extractLsb' 31 1) ||| place 21 12 (w.extractLsb' 12 8) |||
    place 21 11 (w.extractLsb' 20 1) ||| place 21 1 (w.extractLsb' 21 10)
/-- The 6-bit shamt of the RV64I shift rows, inst[25:20] (R270). -/
def Field.shamt6 (w : Word) : BitVec 6 := w.extractLsb' 20 6
/-- The upper field of the RV64I shift rows, inst[31:26] (R270). -/
def Field.funct6 (w : Word) : BitVec 6 := w.extractLsb' 26 6
/-- inst[31:28] of FENCE, printed as zeros (R96, R102). -/
def Field.fm (w : Word) : BitVec 4 := w.extractLsb' 28 4
/-- pred = inst[27:24] (R96). -/
def Field.pred (w : Word) : BitVec 4 := w.extractLsb' 24 4
/-- succ = inst[23:20] (R96). -/
def Field.succ (w : Word) : BitVec 4 := w.extractLsb' 20 4
/-- The function code of the A rows, inst[31:27] (R271); rs3 of the R4-type (R277). -/
def Field.funct5 (w : Word) : BitVec 5 := w.extractLsb' 27 5
/-- aq = inst[26] (R271). -/
def Field.aq (w : Word) : BitVec 1 := w.extractLsb' 26 1
/-- rl = inst[25] (R271). -/
def Field.rl (w : Word) : BitVec 1 := w.extractLsb' 25 1
/-- funct2 = inst[26:25] of the R4-type (R277). -/
def Field.funct2 (w : Word) : BitVec 2 := w.extractLsb' 25 2

/-! ## Decoding, one function per major opcode (R98) -/

/-- LOAD = 0000011 by funct3 (R99, R100 (d)); 011 and 110 are the listed-only LD and LWU (R270). -/
def decodeLoad (w : Word) : Option Instr :=
  match Field.funct3 w with
  | 0b000#3 => some (.lb (Field.rd w) (Field.rs1 w) (Field.iImm w))
  | 0b001#3 => some (.lh (Field.rd w) (Field.rs1 w) (Field.iImm w))
  | 0b010#3 => some (.lw (Field.rd w) (Field.rs1 w) (Field.iImm w))
  | 0b011#3 => some (.ld (Field.rd w) (Field.rs1 w) (Field.iImm w))
  | 0b100#3 => some (.lbu (Field.rd w) (Field.rs1 w) (Field.iImm w))
  | 0b101#3 => some (.lhu (Field.rd w) (Field.rs1 w) (Field.iImm w))
  | 0b110#3 => some (.lwu (Field.rd w) (Field.rs1 w) (Field.iImm w))
  | _ => none

/-- STORE = 0100011 by funct3 (R99, R100 (e)); 011 is the listed-only SD (R270). -/
def decodeStore (w : Word) : Option Instr :=
  match Field.funct3 w with
  | 0b000#3 => some (.sb (Field.rs1 w) (Field.rs2 w) (Field.sImm w))
  | 0b001#3 => some (.sh (Field.rs1 w) (Field.rs2 w) (Field.sImm w))
  | 0b010#3 => some (.sw (Field.rs1 w) (Field.rs2 w) (Field.sImm w))
  | 0b011#3 => some (.sd (Field.rs1 w) (Field.rs2 w) (Field.sImm w))
  | _ => none

/-- BRANCH = 1100011 by funct3 (R99, R100 (f)). -/
def decodeBranch (w : Word) : Option Instr :=
  match Field.funct3 w with
  | 0b000#3 => some (.beq (Field.rs1 w) (Field.rs2 w) (Field.bImm w))
  | 0b001#3 => some (.bne (Field.rs1 w) (Field.rs2 w) (Field.bImm w))
  | 0b100#3 => some (.blt (Field.rs1 w) (Field.rs2 w) (Field.bImm w))
  | 0b101#3 => some (.bge (Field.rs1 w) (Field.rs2 w) (Field.bImm w))
  | 0b110#3 => some (.bltu (Field.rs1 w) (Field.rs2 w) (Field.bImm w))
  | 0b111#3 => some (.bgeu (Field.rs1 w) (Field.rs2 w) (Field.bImm w))
  | _ => none

/-- JALR = 1100111: funct3 000 only (R99, R100 (g)). -/
def decodeJalr (w : Word) : Option Instr :=
  match Field.funct3 w with
  | 0b000#3 => some (.jalr (Field.rd w) (Field.rs1 w) (Field.iImm w))
  | _ => none

/-- OP-IMM funct3 001 by inst[31:25] (R94, R100 (i)); inst[31:26] = 000000 with inst[25] = 1 is the RV64I row (R270, C14). -/
def decodeShiftLeftImm (w : Word) : Option Instr :=
  match Field.funct7 w with
  | 0b0000000#7 => some (.slli (Field.rd w) (Field.rs1 w) (Field.rs2 w))
  | 0b0000001#7 => some (.slliRv64 (Field.rd w) (Field.rs1 w) (Field.shamt6 w))
  | _ => none

/-- OP-IMM funct3 101 by inst[31:25] (R94, R100 (i)); inst[25] = 1 marks the RV64I rows (R270, C14). -/
def decodeShiftRightImm (w : Word) : Option Instr :=
  match Field.funct7 w with
  | 0b0000000#7 => some (.srli (Field.rd w) (Field.rs1 w) (Field.rs2 w))
  | 0b0100000#7 => some (.srai (Field.rd w) (Field.rs1 w) (Field.rs2 w))
  | 0b0000001#7 => some (.srliRv64 (Field.rd w) (Field.rs1 w) (Field.shamt6 w))
  | 0b0100001#7 => some (.sraiRv64 (Field.rd w) (Field.rs1 w) (Field.shamt6 w))
  | _ => none

/-- OP-IMM = 0010011 by funct3 (R99, R100 (i)). -/
def decodeOpImm (w : Word) : Option Instr :=
  match Field.funct3 w with
  | 0b000#3 => some (.addi (Field.rd w) (Field.rs1 w) (Field.iImm w))
  | 0b001#3 => decodeShiftLeftImm w
  | 0b010#3 => some (.slti (Field.rd w) (Field.rs1 w) (Field.iImm w))
  | 0b011#3 => some (.sltiu (Field.rd w) (Field.rs1 w) (Field.iImm w))
  | 0b100#3 => some (.xori (Field.rd w) (Field.rs1 w) (Field.iImm w))
  | 0b101#3 => decodeShiftRightImm w
  | 0b110#3 => some (.ori (Field.rd w) (Field.rs1 w) (Field.iImm w))
  | 0b111#3 => some (.andi (Field.rd w) (Field.rs1 w) (Field.iImm w))
  | _ => none

/-- OP with funct7 0000000 (R99). -/
def decodeOpBase (w : Word) : Option Instr :=
  match Field.funct3 w with
  | 0b000#3 => some (.add (Field.rd w) (Field.rs1 w) (Field.rs2 w))
  | 0b001#3 => some (.sll (Field.rd w) (Field.rs1 w) (Field.rs2 w))
  | 0b010#3 => some (.slt (Field.rd w) (Field.rs1 w) (Field.rs2 w))
  | 0b011#3 => some (.sltu (Field.rd w) (Field.rs1 w) (Field.rs2 w))
  | 0b100#3 => some (.xor (Field.rd w) (Field.rs1 w) (Field.rs2 w))
  | 0b101#3 => some (.srl (Field.rd w) (Field.rs1 w) (Field.rs2 w))
  | 0b110#3 => some (.or (Field.rd w) (Field.rs1 w) (Field.rs2 w))
  | 0b111#3 => some (.and (Field.rd w) (Field.rs1 w) (Field.rs2 w))
  | _ => none

/-- OP with funct7 0100000: funct3 000 and 101 only (R99, R100 (j)). -/
def decodeOpAlt (w : Word) : Option Instr :=
  match Field.funct3 w with
  | 0b000#3 => some (.sub (Field.rd w) (Field.rs1 w) (Field.rs2 w))
  | 0b101#3 => some (.sra (Field.rd w) (Field.rs1 w) (Field.rs2 w))
  | _ => none

/-- OP with funct7 0000001, MULDIV (R240). -/
def decodeMulDiv (w : Word) : Option Instr :=
  match Field.funct3 w with
  | 0b000#3 => some (.mul (Field.rd w) (Field.rs1 w) (Field.rs2 w))
  | 0b001#3 => some (.mulh (Field.rd w) (Field.rs1 w) (Field.rs2 w))
  | 0b010#3 => some (.mulhsu (Field.rd w) (Field.rs1 w) (Field.rs2 w))
  | 0b011#3 => some (.mulhu (Field.rd w) (Field.rs1 w) (Field.rs2 w))
  | 0b100#3 => some (.div (Field.rd w) (Field.rs1 w) (Field.rs2 w))
  | 0b101#3 => some (.divu (Field.rd w) (Field.rs1 w) (Field.rs2 w))
  | 0b110#3 => some (.rem (Field.rd w) (Field.rs1 w) (Field.rs2 w))
  | 0b111#3 => some (.remu (Field.rd w) (Field.rs1 w) (Field.rs2 w))
  | _ => none

/-- OP = 0110011 by funct7 (R99, R100 (j)). -/
def decodeOp (w : Word) : Option Instr :=
  match Field.funct7 w with
  | 0b0000000#7 => decodeOpBase w
  | 0b0100000#7 => decodeOpAlt w
  | 0b0000001#7 => decodeMulDiv w
  | _ => none

/-- MISC-MEM = 0001111: FENCE and FENCE.I, with the fields printed as zeros part of the match (R96, R102, R192, D13). -/
def decodeMiscMem (w : Word) : Option Instr :=
  match Field.funct3 w with
  | 0b000#3 =>
    if Field.fm w = 0#4 ∧ Field.rs1 w = 0#5 ∧ Field.rd w = 0#5 then some (.fence (Field.pred w) (Field.succ w)) else none
  | 0b001#3 =>
    if Field.iImm w = 0#12 ∧ Field.rs1 w = 0#5 ∧ Field.rd w = 0#5 then some .fenceI else none
  | _ => none

/-- SYSTEM funct3 000, PRIV: the exact words of ECALL and EBREAK (R97, R100 (k), R233). -/
def decodePriv (w : Word) : Option Instr :=
  if Field.rs1 w = 0#5 ∧ Field.rd w = 0#5 then
    match Field.iImm w with
    | 0b000000000000#12 => some .ecall
    | 0b000000000001#12 => some .ebreak
    | _ => none
  else none

/-- SYSTEM = 1110011 by funct3 (R95, R97, R99, R100 (k)). -/
def decodeSystem (w : Word) : Option Instr :=
  match Field.funct3 w with
  | 0b000#3 => decodePriv w
  | 0b001#3 => some (.csrrw (Field.rd w) (Field.iImm w) (Field.rs1 w))
  | 0b010#3 => some (.csrrs (Field.rd w) (Field.iImm w) (Field.rs1 w))
  | 0b011#3 => some (.csrrc (Field.rd w) (Field.iImm w) (Field.rs1 w))
  | 0b101#3 => some (.csrrwi (Field.rd w) (Field.iImm w) (Field.rs1 w))
  | 0b110#3 => some (.csrrsi (Field.rd w) (Field.iImm w) (Field.rs1 w))
  | 0b111#3 => some (.csrrci (Field.rd w) (Field.iImm w) (Field.rs1 w))
  | _ => none

/-- OP-IMM-32 = 0011011, listed only (R270). -/
def decodeOpImm32 (w : Word) : Option Instr :=
  match Field.funct3 w with
  | 0b000#3 => some (.addiw (Field.rd w) (Field.rs1 w) (Field.iImm w))
  | 0b001#3 =>
    match Field.funct7 w with
    | 0b0000000#7 => some (.slliw (Field.rd w) (Field.rs1 w) (Field.rs2 w))
    | _ => none
  | 0b101#3 =>
    match Field.funct7 w with
    | 0b0000000#7 => some (.srliw (Field.rd w) (Field.rs1 w) (Field.rs2 w))
    | 0b0100000#7 => some (.sraiw (Field.rd w) (Field.rs1 w) (Field.rs2 w))
    | _ => none
  | _ => none

/-- OP-32 = 0111011, listed only (R252 to R256, R270). -/
def decodeOp32 (w : Word) : Option Instr :=
  match Field.funct3 w with
  | 0b000#3 =>
    match Field.funct7 w with
    | 0b0000000#7 => some (.addw (Field.rd w) (Field.rs1 w) (Field.rs2 w))
    | 0b0100000#7 => some (.subw (Field.rd w) (Field.rs1 w) (Field.rs2 w))
    | 0b0000001#7 => some (.mulw (Field.rd w) (Field.rs1 w) (Field.rs2 w))
    | _ => none
  | 0b001#3 =>
    match Field.funct7 w with
    | 0b0000000#7 => some (.sllw (Field.rd w) (Field.rs1 w) (Field.rs2 w))
    | _ => none
  | 0b100#3 =>
    match Field.funct7 w with
    | 0b0000001#7 => some (.divw (Field.rd w) (Field.rs1 w) (Field.rs2 w))
    | _ => none
  | 0b101#3 =>
    match Field.funct7 w with
    | 0b0000000#7 => some (.srlw (Field.rd w) (Field.rs1 w) (Field.rs2 w))
    | 0b0100000#7 => some (.sraw (Field.rd w) (Field.rs1 w) (Field.rs2 w))
    | 0b0000001#7 => some (.divuw (Field.rd w) (Field.rs1 w) (Field.rs2 w))
    | _ => none
  | 0b110#3 =>
    match Field.funct7 w with
    | 0b0000001#7 => some (.remw (Field.rd w) (Field.rs1 w) (Field.rs2 w))
    | _ => none
  | 0b111#3 =>
    match Field.funct7 w with
    | 0b0000001#7 => some (.remuw (Field.rd w) (Field.rs1 w) (Field.rs2 w))
    | _ => none
  | _ => none

/-- AMO with funct3 010 by inst[31:27], listed only (R271). -/
def decodeAmoW (w : Word) : Option Instr :=
  match Field.funct5 w with
  | 0b00010#5 => if Field.rs2 w = 0#5 then some (.lrW (Field.rd w) (Field.rs1 w) (Field.aq w) (Field.rl w)) else none
  | 0b00011#5 => some (.scW (Field.rd w) (Field.rs1 w) (Field.rs2 w) (Field.aq w) (Field.rl w))
  | 0b00001#5 => some (.amoswapW (Field.rd w) (Field.rs1 w) (Field.rs2 w) (Field.aq w) (Field.rl w))
  | 0b00000#5 => some (.amoaddW (Field.rd w) (Field.rs1 w) (Field.rs2 w) (Field.aq w) (Field.rl w))
  | 0b00100#5 => some (.amoxorW (Field.rd w) (Field.rs1 w) (Field.rs2 w) (Field.aq w) (Field.rl w))
  | 0b01100#5 => some (.amoandW (Field.rd w) (Field.rs1 w) (Field.rs2 w) (Field.aq w) (Field.rl w))
  | 0b01000#5 => some (.amoorW (Field.rd w) (Field.rs1 w) (Field.rs2 w) (Field.aq w) (Field.rl w))
  | 0b10000#5 => some (.amominW (Field.rd w) (Field.rs1 w) (Field.rs2 w) (Field.aq w) (Field.rl w))
  | 0b10100#5 => some (.amomaxW (Field.rd w) (Field.rs1 w) (Field.rs2 w) (Field.aq w) (Field.rl w))
  | 0b11000#5 => some (.amominuW (Field.rd w) (Field.rs1 w) (Field.rs2 w) (Field.aq w) (Field.rl w))
  | 0b11100#5 => some (.amomaxuW (Field.rd w) (Field.rs1 w) (Field.rs2 w) (Field.aq w) (Field.rl w))
  | _ => none

/-- AMO with funct3 011 by inst[31:27], listed only (R272). -/
def decodeAmoD (w : Word) : Option Instr :=
  match Field.funct5 w with
  | 0b00010#5 => if Field.rs2 w = 0#5 then some (.lrD (Field.rd w) (Field.rs1 w) (Field.aq w) (Field.rl w)) else none
  | 0b00011#5 => some (.scD (Field.rd w) (Field.rs1 w) (Field.rs2 w) (Field.aq w) (Field.rl w))
  | 0b00001#5 => some (.amoswapD (Field.rd w) (Field.rs1 w) (Field.rs2 w) (Field.aq w) (Field.rl w))
  | 0b00000#5 => some (.amoaddD (Field.rd w) (Field.rs1 w) (Field.rs2 w) (Field.aq w) (Field.rl w))
  | 0b00100#5 => some (.amoxorD (Field.rd w) (Field.rs1 w) (Field.rs2 w) (Field.aq w) (Field.rl w))
  | 0b01100#5 => some (.amoandD (Field.rd w) (Field.rs1 w) (Field.rs2 w) (Field.aq w) (Field.rl w))
  | 0b01000#5 => some (.amoorD (Field.rd w) (Field.rs1 w) (Field.rs2 w) (Field.aq w) (Field.rl w))
  | 0b10000#5 => some (.amominD (Field.rd w) (Field.rs1 w) (Field.rs2 w) (Field.aq w) (Field.rl w))
  | 0b10100#5 => some (.amomaxD (Field.rd w) (Field.rs1 w) (Field.rs2 w) (Field.aq w) (Field.rl w))
  | 0b11000#5 => some (.amominuD (Field.rd w) (Field.rs1 w) (Field.rs2 w) (Field.aq w) (Field.rl w))
  | 0b11100#5 => some (.amomaxuD (Field.rd w) (Field.rs1 w) (Field.rs2 w) (Field.aq w) (Field.rl w))
  | _ => none

/-- AMO = 0101111 by funct3, listed only (R271, R272). -/
def decodeAmo (w : Word) : Option Instr :=
  match Field.funct3 w with
  | 0b010#3 => decodeAmoW w
  | 0b011#3 => decodeAmoD w
  | _ => none

/-- LOAD-FP = 0000111, listed only (R273, R275). -/
def decodeLoadFp (w : Word) : Option Instr :=
  match Field.funct3 w with
  | 0b010#3 => some (.flw (Field.rd w) (Field.rs1 w) (Field.iImm w))
  | 0b011#3 => some (.fld (Field.rd w) (Field.rs1 w) (Field.iImm w))
  | _ => none

/-- STORE-FP = 0100111, listed only (R273, R275). -/
def decodeStoreFp (w : Word) : Option Instr :=
  match Field.funct3 w with
  | 0b010#3 => some (.fsw (Field.rs1 w) (Field.rs2 w) (Field.sImm w))
  | 0b011#3 => some (.fsd (Field.rs1 w) (Field.rs2 w) (Field.sImm w))
  | _ => none

/-- MADD, R4-type, by inst[26:25], listed only (R273, R275, R277). -/
def decodeMadd (w : Word) : Option Instr :=
  match Field.funct2 w with
  | 0b00#2 => some (.fmaddS (Field.rd w) (Field.rs1 w) (Field.rs2 w) (Field.funct5 w) (Field.funct3 w))
  | 0b01#2 => some (.fmaddD (Field.rd w) (Field.rs1 w) (Field.rs2 w) (Field.funct5 w) (Field.funct3 w))
  | _ => none

/-- MSUB, R4-type, by inst[26:25], listed only (R273, R275, R277). -/
def decodeMsub (w : Word) : Option Instr :=
  match Field.funct2 w with
  | 0b00#2 => some (.fmsubS (Field.rd w) (Field.rs1 w) (Field.rs2 w) (Field.funct5 w) (Field.funct3 w))
  | 0b01#2 => some (.fmsubD (Field.rd w) (Field.rs1 w) (Field.rs2 w) (Field.funct5 w) (Field.funct3 w))
  | _ => none

/-- NMSUB, R4-type, by inst[26:25], listed only (R273, R275, R277). -/
def decodeNmsub (w : Word) : Option Instr :=
  match Field.funct2 w with
  | 0b00#2 => some (.fnmsubS (Field.rd w) (Field.rs1 w) (Field.rs2 w) (Field.funct5 w) (Field.funct3 w))
  | 0b01#2 => some (.fnmsubD (Field.rd w) (Field.rs1 w) (Field.rs2 w) (Field.funct5 w) (Field.funct3 w))
  | _ => none

/-- NMADD, R4-type, by inst[26:25], listed only (R273, R275, R277). -/
def decodeNmadd (w : Word) : Option Instr :=
  match Field.funct2 w with
  | 0b00#2 => some (.fnmaddS (Field.rd w) (Field.rs1 w) (Field.rs2 w) (Field.funct5 w) (Field.funct3 w))
  | 0b01#2 => some (.fnmaddD (Field.rd w) (Field.rs1 w) (Field.rs2 w) (Field.funct5 w) (Field.funct3 w))
  | _ => none

/-- OP-FP with funct7 0010000, by funct3, listed only (R273). -/
def decodeFp0010000 (w : Word) : Option Instr :=
  match Field.funct3 w with
  | 0b000#3 => some (.fsgnjS (Field.rd w) (Field.rs1 w) (Field.rs2 w))
  | 0b001#3 => some (.fsgnjnS (Field.rd w) (Field.rs1 w) (Field.rs2 w))
  | 0b010#3 => some (.fsgnjxS (Field.rd w) (Field.rs1 w) (Field.rs2 w))
  | _ => none

/-- OP-FP with funct7 0010001, by funct3, listed only (R275). -/
def decodeFp0010001 (w : Word) : Option Instr :=
  match Field.funct3 w with
  | 0b000#3 => some (.fsgnjD (Field.rd w) (Field.rs1 w) (Field.rs2 w))
  | 0b001#3 => some (.fsgnjnD (Field.rd w) (Field.rs1 w) (Field.rs2 w))
  | 0b010#3 => some (.fsgnjxD (Field.rd w) (Field.rs1 w) (Field.rs2 w))
  | _ => none

/-- OP-FP with funct7 0010100, by funct3, listed only (R273). -/
def decodeFp0010100 (w : Word) : Option Instr :=
  match Field.funct3 w with
  | 0b000#3 => some (.fminS (Field.rd w) (Field.rs1 w) (Field.rs2 w))
  | 0b001#3 => some (.fmaxS (Field.rd w) (Field.rs1 w) (Field.rs2 w))
  | _ => none

/-- OP-FP with funct7 0010101, by funct3, listed only (R275). -/
def decodeFp0010101 (w : Word) : Option Instr :=
  match Field.funct3 w with
  | 0b000#3 => some (.fminD (Field.rd w) (Field.rs1 w) (Field.rs2 w))
  | 0b001#3 => some (.fmaxD (Field.rd w) (Field.rs1 w) (Field.rs2 w))
  | _ => none

/-- OP-FP with funct7 0100000, by inst[24:20], listed only (R275). -/
def decodeFp0100000 (w : Word) : Option Instr :=
  match Field.rs2 w with
  | 0b00001#5 => some (.fcvtSD (Field.rd w) (Field.rs1 w) (Field.funct3 w))
  | _ => none

/-- OP-FP with funct7 0100001, by inst[24:20], listed only (R275). -/
def decodeFp0100001 (w : Word) : Option Instr :=
  match Field.rs2 w with
  | 0b00000#5 => some (.fcvtDS (Field.rd w) (Field.rs1 w) (Field.funct3 w))
  | _ => none

/-- OP-FP with funct7 0101100, by inst[24:20], listed only (R273). -/
def decodeFp0101100 (w : Word) : Option Instr :=
  match Field.rs2 w with
  | 0b00000#5 => some (.fsqrtS (Field.rd w) (Field.rs1 w) (Field.funct3 w))
  | _ => none

/-- OP-FP with funct7 0101101, by inst[24:20], listed only (R275). -/
def decodeFp0101101 (w : Word) : Option Instr :=
  match Field.rs2 w with
  | 0b00000#5 => some (.fsqrtD (Field.rd w) (Field.rs1 w) (Field.funct3 w))
  | _ => none

/-- OP-FP with funct7 1010000, by funct3, listed only (R273). -/
def decodeFp1010000 (w : Word) : Option Instr :=
  match Field.funct3 w with
  | 0b000#3 => some (.fleS (Field.rd w) (Field.rs1 w) (Field.rs2 w))
  | 0b001#3 => some (.fltS (Field.rd w) (Field.rs1 w) (Field.rs2 w))
  | 0b010#3 => some (.feqS (Field.rd w) (Field.rs1 w) (Field.rs2 w))
  | _ => none

/-- OP-FP with funct7 1010001, by funct3, listed only (R275). -/
def decodeFp1010001 (w : Word) : Option Instr :=
  match Field.funct3 w with
  | 0b000#3 => some (.fleD (Field.rd w) (Field.rs1 w) (Field.rs2 w))
  | 0b001#3 => some (.fltD (Field.rd w) (Field.rs1 w) (Field.rs2 w))
  | 0b010#3 => some (.feqD (Field.rd w) (Field.rs1 w) (Field.rs2 w))
  | _ => none

/-- OP-FP with funct7 1100000, by inst[24:20], listed only (R273, R274). -/
def decodeFp1100000 (w : Word) : Option Instr :=
  match Field.rs2 w with
  | 0b00000#5 => some (.fcvtWS (Field.rd w) (Field.rs1 w) (Field.funct3 w))
  | 0b00001#5 => some (.fcvtWuS (Field.rd w) (Field.rs1 w) (Field.funct3 w))
  | 0b00010#5 => some (.fcvtLS (Field.rd w) (Field.rs1 w) (Field.funct3 w))
  | 0b00011#5 => some (.fcvtLuS (Field.rd w) (Field.rs1 w) (Field.funct3 w))
  | _ => none

/-- OP-FP with funct7 1100001, by inst[24:20], listed only (R275, R276). -/
def decodeFp1100001 (w : Word) : Option Instr :=
  match Field.rs2 w with
  | 0b00000#5 => some (.fcvtWD (Field.rd w) (Field.rs1 w) (Field.funct3 w))
  | 0b00001#5 => some (.fcvtWuD (Field.rd w) (Field.rs1 w) (Field.funct3 w))
  | 0b00010#5 => some (.fcvtLD (Field.rd w) (Field.rs1 w) (Field.funct3 w))
  | 0b00011#5 => some (.fcvtLuD (Field.rd w) (Field.rs1 w) (Field.funct3 w))
  | _ => none

/-- OP-FP with funct7 1101000, by inst[24:20], listed only (R273, R274). -/
def decodeFp1101000 (w : Word) : Option Instr :=
  match Field.rs2 w with
  | 0b00000#5 => some (.fcvtSW (Field.rd w) (Field.rs1 w) (Field.funct3 w))
  | 0b00001#5 => some (.fcvtSWu (Field.rd w) (Field.rs1 w) (Field.funct3 w))
  | 0b00010#5 => some (.fcvtSL (Field.rd w) (Field.rs1 w) (Field.funct3 w))
  | 0b00011#5 => some (.fcvtSLu (Field.rd w) (Field.rs1 w) (Field.funct3 w))
  | _ => none

/-- OP-FP with funct7 1101001, by inst[24:20], listed only (R275, R276). -/
def decodeFp1101001 (w : Word) : Option Instr :=
  match Field.rs2 w with
  | 0b00000#5 => some (.fcvtDW (Field.rd w) (Field.rs1 w) (Field.funct3 w))
  | 0b00001#5 => some (.fcvtDWu (Field.rd w) (Field.rs1 w) (Field.funct3 w))
  | 0b00010#5 => some (.fcvtDL (Field.rd w) (Field.rs1 w) (Field.funct3 w))
  | 0b00011#5 => some (.fcvtDLu (Field.rd w) (Field.rs1 w) (Field.funct3 w))
  | _ => none

/-- OP-FP with funct7 1110000: inst[24:20] = 00000, by funct3, listed only (R273). -/
def decodeFp1110000 (w : Word) : Option Instr :=
  if Field.rs2 w = 0#5 then
    match Field.funct3 w with
    | 0b000#3 => some (.fmvXW (Field.rd w) (Field.rs1 w))
    | 0b001#3 => some (.fclassS (Field.rd w) (Field.rs1 w))
    | _ => none
  else none

/-- OP-FP with funct7 1110001: inst[24:20] = 00000, by funct3, listed only (R275, R276). -/
def decodeFp1110001 (w : Word) : Option Instr :=
  if Field.rs2 w = 0#5 then
    match Field.funct3 w with
    | 0b000#3 => some (.fmvXD (Field.rd w) (Field.rs1 w))
    | 0b001#3 => some (.fclassD (Field.rd w) (Field.rs1 w))
    | _ => none
  else none

/-- OP-FP with funct7 1111000: inst[24:20] = 00000, by funct3, listed only (R273). -/
def decodeFp1111000 (w : Word) : Option Instr :=
  if Field.rs2 w = 0#5 then
    match Field.funct3 w with
    | 0b000#3 => some (.fmvWX (Field.rd w) (Field.rs1 w))
    | _ => none
  else none

/-- OP-FP with funct7 1111001: inst[24:20] = 00000, by funct3, listed only (R276). -/
def decodeFp1111001 (w : Word) : Option Instr :=
  if Field.rs2 w = 0#5 then
    match Field.funct3 w with
    | 0b000#3 => some (.fmvDX (Field.rd w) (Field.rs1 w))
    | _ => none
  else none

/-- OP-FP = 1010011 by funct7, listed only (R273 to R276). -/
def decodeOpFp (w : Word) : Option Instr :=
  match Field.funct7 w with
  | 0b0000000#7 => some (.faddS (Field.rd w) (Field.rs1 w) (Field.rs2 w) (Field.funct3 w))
  | 0b0000001#7 => some (.faddD (Field.rd w) (Field.rs1 w) (Field.rs2 w) (Field.funct3 w))
  | 0b0000100#7 => some (.fsubS (Field.rd w) (Field.rs1 w) (Field.rs2 w) (Field.funct3 w))
  | 0b0000101#7 => some (.fsubD (Field.rd w) (Field.rs1 w) (Field.rs2 w) (Field.funct3 w))
  | 0b0001000#7 => some (.fmulS (Field.rd w) (Field.rs1 w) (Field.rs2 w) (Field.funct3 w))
  | 0b0001001#7 => some (.fmulD (Field.rd w) (Field.rs1 w) (Field.rs2 w) (Field.funct3 w))
  | 0b0001100#7 => some (.fdivS (Field.rd w) (Field.rs1 w) (Field.rs2 w) (Field.funct3 w))
  | 0b0001101#7 => some (.fdivD (Field.rd w) (Field.rs1 w) (Field.rs2 w) (Field.funct3 w))
  | 0b0010000#7 => decodeFp0010000 w
  | 0b0010001#7 => decodeFp0010001 w
  | 0b0010100#7 => decodeFp0010100 w
  | 0b0010101#7 => decodeFp0010101 w
  | 0b0100000#7 => decodeFp0100000 w
  | 0b0100001#7 => decodeFp0100001 w
  | 0b0101100#7 => decodeFp0101100 w
  | 0b0101101#7 => decodeFp0101101 w
  | 0b1010000#7 => decodeFp1010000 w
  | 0b1010001#7 => decodeFp1010001 w
  | 0b1100000#7 => decodeFp1100000 w
  | 0b1100001#7 => decodeFp1100001 w
  | 0b1101000#7 => decodeFp1101000 w
  | 0b1101001#7 => decodeFp1101001 w
  | 0b1110000#7 => decodeFp1110000 w
  | 0b1110001#7 => decodeFp1110001 w
  | 0b1111000#7 => decodeFp1111000 w
  | 0b1111001#7 => decodeFp1111001 w
  | _ => none

/-- The row of spec/opcode_table.json whose select bits a word has, by major opcode (R98, R99). -/
def decodeRow (w : Word) : Option Instr :=
  match Field.opcode w with
  | 0b0110111#7 => some (.lui (Field.rd w) (Field.uImm w))
  | 0b0010111#7 => some (.auipc (Field.rd w) (Field.uImm w))
  | 0b1101111#7 => some (.jal (Field.rd w) (Field.jImm w))
  | 0b1100111#7 => decodeJalr w
  | 0b1100011#7 => decodeBranch w
  | 0b0000011#7 => decodeLoad w
  | 0b0100011#7 => decodeStore w
  | 0b0010011#7 => decodeOpImm w
  | 0b0110011#7 => decodeOp w
  | 0b0001111#7 => decodeMiscMem w
  | 0b1110011#7 => decodeSystem w
  | 0b0011011#7 => decodeOpImm32 w
  | 0b0111011#7 => decodeOp32 w
  | 0b0101111#7 => decodeAmo w
  | 0b0000111#7 => decodeLoadFp w
  | 0b0100111#7 => decodeStoreFp w
  | 0b1000011#7 => decodeMadd w
  | 0b1000111#7 => decodeMsub w
  | 0b1001011#7 => decodeNmsub w
  | 0b1001111#7 => decodeNmadd w
  | 0b1010011#7 => decodeOpFp w
  | _ => none

/-- Why a word is no instruction. Each of the five that concern a whole word is an IllegalInstruction on this hardware
(R100); the names follow R81, R98, R101. -/
inductive DecodeError where
  /-- Fewer than the four bytes every instruction has (R80). Raised by `decodeBytes` only; safe. -/
  | truncated
  /-- inst[1:0] is not 11: the 16-bit space (R81, R100 (a)). Safe. -/
  | sixteenBit
  /-- inst[4:2] = 111: longer than 32 bits (R81, R100 (b)). Safe. -/
  | longerThan32
  /-- A custom major opcode (R101, R100 (c)). Safe. -/
  | customOpcode
  /-- A reserved major opcode (R98, R100 (c)). Safe. -/
  | reservedOpcode
  /-- A major opcode that has rows, none of which the word matches (R100 (d) to (k)). Safe. -/
  | unlisted
  deriving DecidableEq, Repr

/-- The name under which a word that matches no row is rejected. -/
def rejectReason (w : Word) : DecodeError :=
  if w.extractLsb' 0 2 ≠ 0b11#2 then .sixteenBit
  else if w.extractLsb' 2 3 = 0b111#3 then .longerThan32
  else match Field.opcode w with
    | 0b0001011#7 => .customOpcode
    | 0b0101011#7 => .customOpcode
    | 0b1011011#7 => .customOpcode
    | 0b1111011#7 => .customOpcode
    | 0b1010111#7 => .reservedOpcode
    | 0b1101011#7 => .reservedOpcode
    | 0b1110111#7 => .reservedOpcode
    | _ => .unlisted

/-- The instruction a word is, or the name of its rejection (R99, R100). -/
def decode (w : Word) : Except DecodeError Instr :=
  match decodeRow w with
  | some i => .ok i
  | none => .error (rejectReason w)

/-! ## Bytes: little-endian (R51, R52, D5) -/

/-- The value little-endian bytes spell, the first the least significant (R51, R52); at most four of them fit a word. -/
def wordOfBytes : List Byte → Word
  | [] => 0#32
  | b :: bs => place 32 0 b ||| (wordOfBytes bs <<< 8)

/-- The low `n` bytes of a word, the least significant first: byte i is `v[8i+7:8i]` (R51). -/
def bytesOfWord : Nat → Word → List Byte
  | 0, _ => []
  | n + 1, v => v.extractLsb' 0 8 :: bytesOfWord n (v >>> 8)

/-- Decoding from bytes in memory order: always four (R80, R81), the rest given back. -/
def decodeBytes : List Byte → Except DecodeError (Instr × List Byte)
  | b0 :: b1 :: b2 :: b3 :: rest =>
    match decode (wordOfBytes [b0, b1, b2, b3]) with
    | .ok i => .ok (i, rest)
    | .error e => .error e
  | _ => .error .truncated

/-- The instruction read from a word whose low `nbits` bits are `w` and whose other bits are zero, laid out in memory
as the hardware stores it (R52). -/
def decodeTableWord (nbits w : Nat) : Option Instr :=
  match decodeBytes (bytesOfWord 4 (BitVec.ofNat 32 (w % 2 ^ nbits))) with
  | .ok (i, _) => some i
  | .error _ => none

/-! ## The encoder -/

/-- R-type, and the shift-immediate form with shamt in the rs2 place (R83, R94). -/
def rType (f7 : BitVec 7) (rs2 rs1 : RegId) (f3 : BitVec 3) (rd : RegId) (op : BitVec 7) : Word :=
  place 32 25 f7 ||| place 32 20 rs2 ||| place 32 15 rs1 ||| place 32 12 f3 ||| place 32 7 rd ||| place 32 0 op

/-- I-type, with the CSR and SYSTEM forms that reinterpret its 12-bit field (R84, R95, R97). -/
def iType (imm : BitVec 12) (rs1 : RegId) (f3 : BitVec 3) (rd : RegId) (op : BitVec 7) : Word :=
  place 32 20 imm ||| place 32 15 rs1 ||| place 32 12 f3 ||| place 32 7 rd ||| place 32 0 op

/-- S-type (R85). -/
def sType (imm : BitVec 12) (rs2 rs1 : RegId) (f3 : BitVec 3) (op : BitVec 7) : Word :=
  place 32 25 (imm.extractLsb' 5 7) ||| place 32 20 rs2 ||| place 32 15 rs1 ||| place 32 12 f3 |||
    place 32 7 (imm.extractLsb' 0 5) ||| place 32 0 op

/-- B-type (R86): bit 0 of the offset has no place. -/
def bType (imm : BitVec 13) (rs2 rs1 : RegId) (f3 : BitVec 3) (op : BitVec 7) : Word :=
  place 32 31 (imm.extractLsb' 12 1) ||| place 32 25 (imm.extractLsb' 5 6) ||| place 32 20 rs2 ||| place 32 15 rs1 |||
    place 32 12 f3 ||| place 32 8 (imm.extractLsb' 1 4) ||| place 32 7 (imm.extractLsb' 11 1) ||| place 32 0 op

/-- U-type (R87). -/
def uType (imm : BitVec 20) (rd : RegId) (op : BitVec 7) : Word :=
  place 32 12 imm ||| place 32 7 rd ||| place 32 0 op

/-- J-type (R88): bit 0 of the offset has no place. -/
def jType (imm : BitVec 21) (rd : RegId) (op : BitVec 7) : Word :=
  place 32 31 (imm.extractLsb' 20 1) ||| place 32 21 (imm.extractLsb' 1 10) ||| place 32 20 (imm.extractLsb' 11 1) |||
    place 32 12 (imm.extractLsb' 12 8) ||| place 32 7 rd ||| place 32 0 op

/-- The FENCE form (R96): inst[31:28], rs1 and rd are zero. -/
def fenceType (pred succ : BitVec 4) (f3 : BitVec 3) : Word :=
  place 32 24 pred ||| place 32 20 succ ||| place 32 12 f3 ||| place 32 0 0b0001111#7

/-- The RV64I shift-immediate form, listed only (R270). -/
def shift64Type (f6 : BitVec 6) (shamt : BitVec 6) (rs1 : RegId) (f3 : BitVec 3) (rd : RegId) (op : BitVec 7) : Word :=
  place 32 26 f6 ||| place 32 20 shamt ||| place 32 15 rs1 ||| place 32 12 f3 ||| place 32 7 rd ||| place 32 0 op

/-- The form of the A rows, listed only (R271). -/
def amoType (f5 : BitVec 5) (aq rl : BitVec 1) (rs2 rs1 : RegId) (f3 : BitVec 3) (rd : RegId) (op : BitVec 7) : Word :=
  place 32 27 f5 ||| place 32 26 aq ||| place 32 25 rl ||| place 32 20 rs2 ||| place 32 15 rs1 ||| place 32 12 f3 |||
    place 32 7 rd ||| place 32 0 op

/-- R4-type, listed only (R277). -/
def r4Type (rs3 : RegId) (f2 : BitVec 2) (rs2 rs1 : RegId) (f3 : BitVec 3) (rd : RegId) (op : BitVec 7) : Word :=
  place 32 27 rs3 ||| place 32 25 f2 ||| place 32 20 rs2 ||| place 32 15 rs1 ||| place 32 12 f3 ||| place 32 7 rd |||
    place 32 0 op

/-- The word of an instruction: the select bits of its row (R99-T, R252 to R256, R270 to R276) and its operands. -/
def encode : Instr → Word
  | .lui rd imm => uType imm rd 0b0110111#7
  | .auipc rd imm => uType imm rd 0b0010111#7
  | .jal rd imm => jType imm rd 0b1101111#7
  | .jalr rd rs1 imm => iType imm rs1 0b000#3 rd 0b1100111#7
  | .beq rs1 rs2 imm => bType imm rs2 rs1 0b000#3 0b1100011#7
  | .bne rs1 rs2 imm => bType imm rs2 rs1 0b001#3 0b1100011#7
  | .blt rs1 rs2 imm => bType imm rs2 rs1 0b100#3 0b1100011#7
  | .bge rs1 rs2 imm => bType imm rs2 rs1 0b101#3 0b1100011#7
  | .bltu rs1 rs2 imm => bType imm rs2 rs1 0b110#3 0b1100011#7
  | .bgeu rs1 rs2 imm => bType imm rs2 rs1 0b111#3 0b1100011#7
  | .lb rd rs1 imm => iType imm rs1 0b000#3 rd 0b0000011#7
  | .lh rd rs1 imm => iType imm rs1 0b001#3 rd 0b0000011#7
  | .lw rd rs1 imm => iType imm rs1 0b010#3 rd 0b0000011#7
  | .lbu rd rs1 imm => iType imm rs1 0b100#3 rd 0b0000011#7
  | .lhu rd rs1 imm => iType imm rs1 0b101#3 rd 0b0000011#7
  | .sb rs1 rs2 imm => sType imm rs2 rs1 0b000#3 0b0100011#7
  | .sh rs1 rs2 imm => sType imm rs2 rs1 0b001#3 0b0100011#7
  | .sw rs1 rs2 imm => sType imm rs2 rs1 0b010#3 0b0100011#7
  | .addi rd rs1 imm => iType imm rs1 0b000#3 rd 0b0010011#7
  | .slti rd rs1 imm => iType imm rs1 0b010#3 rd 0b0010011#7
  | .sltiu rd rs1 imm => iType imm rs1 0b011#3 rd 0b0010011#7
  | .xori rd rs1 imm => iType imm rs1 0b100#3 rd 0b0010011#7
  | .ori rd rs1 imm => iType imm rs1 0b110#3 rd 0b0010011#7
  | .andi rd rs1 imm => iType imm rs1 0b111#3 rd 0b0010011#7
  | .slli rd rs1 shamt => rType 0b0000000#7 shamt rs1 0b001#3 rd 0b0010011#7
  | .srli rd rs1 shamt => rType 0b0000000#7 shamt rs1 0b101#3 rd 0b0010011#7
  | .srai rd rs1 shamt => rType 0b0100000#7 shamt rs1 0b101#3 rd 0b0010011#7
  | .add rd rs1 rs2 => rType 0b0000000#7 rs2 rs1 0b000#3 rd 0b0110011#7
  | .sub rd rs1 rs2 => rType 0b0100000#7 rs2 rs1 0b000#3 rd 0b0110011#7
  | .sll rd rs1 rs2 => rType 0b0000000#7 rs2 rs1 0b001#3 rd 0b0110011#7
  | .slt rd rs1 rs2 => rType 0b0000000#7 rs2 rs1 0b010#3 rd 0b0110011#7
  | .sltu rd rs1 rs2 => rType 0b0000000#7 rs2 rs1 0b011#3 rd 0b0110011#7
  | .xor rd rs1 rs2 => rType 0b0000000#7 rs2 rs1 0b100#3 rd 0b0110011#7
  | .srl rd rs1 rs2 => rType 0b0000000#7 rs2 rs1 0b101#3 rd 0b0110011#7
  | .sra rd rs1 rs2 => rType 0b0100000#7 rs2 rs1 0b101#3 rd 0b0110011#7
  | .or rd rs1 rs2 => rType 0b0000000#7 rs2 rs1 0b110#3 rd 0b0110011#7
  | .and rd rs1 rs2 => rType 0b0000000#7 rs2 rs1 0b111#3 rd 0b0110011#7
  | .fence pred succ => fenceType pred succ 0b000#3
  | .fenceI => iType 0b000000000000#12 0#5 0b001#3 0#5 0b0001111#7
  | .ecall => iType 0b000000000000#12 0#5 0b000#3 0#5 0b1110011#7
  | .ebreak => iType 0b000000000001#12 0#5 0b000#3 0#5 0b1110011#7
  | .csrrw rd csr rs1 => iType csr rs1 0b001#3 rd 0b1110011#7
  | .csrrs rd csr rs1 => iType csr rs1 0b010#3 rd 0b1110011#7
  | .csrrc rd csr rs1 => iType csr rs1 0b011#3 rd 0b1110011#7
  | .csrrwi rd csr uimm => iType csr uimm 0b101#3 rd 0b1110011#7
  | .csrrsi rd csr uimm => iType csr uimm 0b110#3 rd 0b1110011#7
  | .csrrci rd csr uimm => iType csr uimm 0b111#3 rd 0b1110011#7
  | .mul rd rs1 rs2 => rType 0b0000001#7 rs2 rs1 0b000#3 rd 0b0110011#7
  | .mulh rd rs1 rs2 => rType 0b0000001#7 rs2 rs1 0b001#3 rd 0b0110011#7
  | .mulhsu rd rs1 rs2 => rType 0b0000001#7 rs2 rs1 0b010#3 rd 0b0110011#7
  | .mulhu rd rs1 rs2 => rType 0b0000001#7 rs2 rs1 0b011#3 rd 0b0110011#7
  | .div rd rs1 rs2 => rType 0b0000001#7 rs2 rs1 0b100#3 rd 0b0110011#7
  | .divu rd rs1 rs2 => rType 0b0000001#7 rs2 rs1 0b101#3 rd 0b0110011#7
  | .rem rd rs1 rs2 => rType 0b0000001#7 rs2 rs1 0b110#3 rd 0b0110011#7
  | .remu rd rs1 rs2 => rType 0b0000001#7 rs2 rs1 0b111#3 rd 0b0110011#7
  | .lwu rd rs1 imm => iType imm rs1 0b110#3 rd 0b0000011#7
  | .ld rd rs1 imm => iType imm rs1 0b011#3 rd 0b0000011#7
  | .sd rs1 rs2 imm => sType imm rs2 rs1 0b011#3 0b0100011#7
  | .slliRv64 rd rs1 shamt => shift64Type 0b000000#6 shamt rs1 0b001#3 rd 0b0010011#7
  | .srliRv64 rd rs1 shamt => shift64Type 0b000000#6 shamt rs1 0b101#3 rd 0b0010011#7
  | .sraiRv64 rd rs1 shamt => shift64Type 0b010000#6 shamt rs1 0b101#3 rd 0b0010011#7
  | .addiw rd rs1 imm => iType imm rs1 0b000#3 rd 0b0011011#7
  | .slliw rd rs1 shamt => rType 0b0000000#7 shamt rs1 0b001#3 rd 0b0011011#7
  | .srliw rd rs1 shamt => rType 0b0000000#7 shamt rs1 0b101#3 rd 0b0011011#7
  | .sraiw rd rs1 shamt => rType 0b0100000#7 shamt rs1 0b101#3 rd 0b0011011#7
  | .addw rd rs1 rs2 => rType 0b0000000#7 rs2 rs1 0b000#3 rd 0b0111011#7
  | .subw rd rs1 rs2 => rType 0b0100000#7 rs2 rs1 0b000#3 rd 0b0111011#7
  | .sllw rd rs1 rs2 => rType 0b0000000#7 rs2 rs1 0b001#3 rd 0b0111011#7
  | .srlw rd rs1 rs2 => rType 0b0000000#7 rs2 rs1 0b101#3 rd 0b0111011#7
  | .sraw rd rs1 rs2 => rType 0b0100000#7 rs2 rs1 0b101#3 rd 0b0111011#7
  | .mulw rd rs1 rs2 => rType 0b0000001#7 rs2 rs1 0b000#3 rd 0b0111011#7
  | .divw rd rs1 rs2 => rType 0b0000001#7 rs2 rs1 0b100#3 rd 0b0111011#7
  | .divuw rd rs1 rs2 => rType 0b0000001#7 rs2 rs1 0b101#3 rd 0b0111011#7
  | .remw rd rs1 rs2 => rType 0b0000001#7 rs2 rs1 0b110#3 rd 0b0111011#7
  | .remuw rd rs1 rs2 => rType 0b0000001#7 rs2 rs1 0b111#3 rd 0b0111011#7
  | .lrW rd rs1 aq rl => amoType 0b00010#5 aq rl 0#5 rs1 0b010#3 rd 0b0101111#7
  | .scW rd rs1 rs2 aq rl => amoType 0b00011#5 aq rl rs2 rs1 0b010#3 rd 0b0101111#7
  | .amoswapW rd rs1 rs2 aq rl => amoType 0b00001#5 aq rl rs2 rs1 0b010#3 rd 0b0101111#7
  | .amoaddW rd rs1 rs2 aq rl => amoType 0b00000#5 aq rl rs2 rs1 0b010#3 rd 0b0101111#7
  | .amoxorW rd rs1 rs2 aq rl => amoType 0b00100#5 aq rl rs2 rs1 0b010#3 rd 0b0101111#7
  | .amoandW rd rs1 rs2 aq rl => amoType 0b01100#5 aq rl rs2 rs1 0b010#3 rd 0b0101111#7
  | .amoorW rd rs1 rs2 aq rl => amoType 0b01000#5 aq rl rs2 rs1 0b010#3 rd 0b0101111#7
  | .amominW rd rs1 rs2 aq rl => amoType 0b10000#5 aq rl rs2 rs1 0b010#3 rd 0b0101111#7
  | .amomaxW rd rs1 rs2 aq rl => amoType 0b10100#5 aq rl rs2 rs1 0b010#3 rd 0b0101111#7
  | .amominuW rd rs1 rs2 aq rl => amoType 0b11000#5 aq rl rs2 rs1 0b010#3 rd 0b0101111#7
  | .amomaxuW rd rs1 rs2 aq rl => amoType 0b11100#5 aq rl rs2 rs1 0b010#3 rd 0b0101111#7
  | .lrD rd rs1 aq rl => amoType 0b00010#5 aq rl 0#5 rs1 0b011#3 rd 0b0101111#7
  | .scD rd rs1 rs2 aq rl => amoType 0b00011#5 aq rl rs2 rs1 0b011#3 rd 0b0101111#7
  | .amoswapD rd rs1 rs2 aq rl => amoType 0b00001#5 aq rl rs2 rs1 0b011#3 rd 0b0101111#7
  | .amoaddD rd rs1 rs2 aq rl => amoType 0b00000#5 aq rl rs2 rs1 0b011#3 rd 0b0101111#7
  | .amoxorD rd rs1 rs2 aq rl => amoType 0b00100#5 aq rl rs2 rs1 0b011#3 rd 0b0101111#7
  | .amoandD rd rs1 rs2 aq rl => amoType 0b01100#5 aq rl rs2 rs1 0b011#3 rd 0b0101111#7
  | .amoorD rd rs1 rs2 aq rl => amoType 0b01000#5 aq rl rs2 rs1 0b011#3 rd 0b0101111#7
  | .amominD rd rs1 rs2 aq rl => amoType 0b10000#5 aq rl rs2 rs1 0b011#3 rd 0b0101111#7
  | .amomaxD rd rs1 rs2 aq rl => amoType 0b10100#5 aq rl rs2 rs1 0b011#3 rd 0b0101111#7
  | .amominuD rd rs1 rs2 aq rl => amoType 0b11000#5 aq rl rs2 rs1 0b011#3 rd 0b0101111#7
  | .amomaxuD rd rs1 rs2 aq rl => amoType 0b11100#5 aq rl rs2 rs1 0b011#3 rd 0b0101111#7
  | .flw rd rs1 imm => iType imm rs1 0b010#3 rd 0b0000111#7
  | .fsw rs1 rs2 imm => sType imm rs2 rs1 0b010#3 0b0100111#7
  | .fmaddS rd rs1 rs2 rs3 rm => r4Type rs3 0b00#2 rs2 rs1 rm rd 0b1000011#7
  | .fmsubS rd rs1 rs2 rs3 rm => r4Type rs3 0b00#2 rs2 rs1 rm rd 0b1000111#7
  | .fnmsubS rd rs1 rs2 rs3 rm => r4Type rs3 0b00#2 rs2 rs1 rm rd 0b1001011#7
  | .fnmaddS rd rs1 rs2 rs3 rm => r4Type rs3 0b00#2 rs2 rs1 rm rd 0b1001111#7
  | .faddS rd rs1 rs2 rm => rType 0b0000000#7 rs2 rs1 rm rd 0b1010011#7
  | .fsubS rd rs1 rs2 rm => rType 0b0000100#7 rs2 rs1 rm rd 0b1010011#7
  | .fmulS rd rs1 rs2 rm => rType 0b0001000#7 rs2 rs1 rm rd 0b1010011#7
  | .fdivS rd rs1 rs2 rm => rType 0b0001100#7 rs2 rs1 rm rd 0b1010011#7
  | .fsqrtS rd rs1 rm => rType 0b0101100#7 0b00000#5 rs1 rm rd 0b1010011#7
  | .fsgnjS rd rs1 rs2 => rType 0b0010000#7 rs2 rs1 0b000#3 rd 0b1010011#7
  | .fsgnjnS rd rs1 rs2 => rType 0b0010000#7 rs2 rs1 0b001#3 rd 0b1010011#7
  | .fsgnjxS rd rs1 rs2 => rType 0b0010000#7 rs2 rs1 0b010#3 rd 0b1010011#7
  | .fminS rd rs1 rs2 => rType 0b0010100#7 rs2 rs1 0b000#3 rd 0b1010011#7
  | .fmaxS rd rs1 rs2 => rType 0b0010100#7 rs2 rs1 0b001#3 rd 0b1010011#7
  | .fcvtWS rd rs1 rm => rType 0b1100000#7 0b00000#5 rs1 rm rd 0b1010011#7
  | .fcvtWuS rd rs1 rm => rType 0b1100000#7 0b00001#5 rs1 rm rd 0b1010011#7
  | .fmvXW rd rs1 => rType 0b1110000#7 0b00000#5 rs1 0b000#3 rd 0b1010011#7
  | .feqS rd rs1 rs2 => rType 0b1010000#7 rs2 rs1 0b010#3 rd 0b1010011#7
  | .fltS rd rs1 rs2 => rType 0b1010000#7 rs2 rs1 0b001#3 rd 0b1010011#7
  | .fleS rd rs1 rs2 => rType 0b1010000#7 rs2 rs1 0b000#3 rd 0b1010011#7
  | .fclassS rd rs1 => rType 0b1110000#7 0b00000#5 rs1 0b001#3 rd 0b1010011#7
  | .fcvtSW rd rs1 rm => rType 0b1101000#7 0b00000#5 rs1 rm rd 0b1010011#7
  | .fcvtSWu rd rs1 rm => rType 0b1101000#7 0b00001#5 rs1 rm rd 0b1010011#7
  | .fmvWX rd rs1 => rType 0b1111000#7 0b00000#5 rs1 0b000#3 rd 0b1010011#7
  | .fcvtLS rd rs1 rm => rType 0b1100000#7 0b00010#5 rs1 rm rd 0b1010011#7
  | .fcvtLuS rd rs1 rm => rType 0b1100000#7 0b00011#5 rs1 rm rd 0b1010011#7
  | .fcvtSL rd rs1 rm => rType 0b1101000#7 0b00010#5 rs1 rm rd 0b1010011#7
  | .fcvtSLu rd rs1 rm => rType 0b1101000#7 0b00011#5 rs1 rm rd 0b1010011#7
  | .fld rd rs1 imm => iType imm rs1 0b011#3 rd 0b0000111#7
  | .fsd rs1 rs2 imm => sType imm rs2 rs1 0b011#3 0b0100111#7
  | .fmaddD rd rs1 rs2 rs3 rm => r4Type rs3 0b01#2 rs2 rs1 rm rd 0b1000011#7
  | .fmsubD rd rs1 rs2 rs3 rm => r4Type rs3 0b01#2 rs2 rs1 rm rd 0b1000111#7
  | .fnmsubD rd rs1 rs2 rs3 rm => r4Type rs3 0b01#2 rs2 rs1 rm rd 0b1001011#7
  | .fnmaddD rd rs1 rs2 rs3 rm => r4Type rs3 0b01#2 rs2 rs1 rm rd 0b1001111#7
  | .faddD rd rs1 rs2 rm => rType 0b0000001#7 rs2 rs1 rm rd 0b1010011#7
  | .fsubD rd rs1 rs2 rm => rType 0b0000101#7 rs2 rs1 rm rd 0b1010011#7
  | .fmulD rd rs1 rs2 rm => rType 0b0001001#7 rs2 rs1 rm rd 0b1010011#7
  | .fdivD rd rs1 rs2 rm => rType 0b0001101#7 rs2 rs1 rm rd 0b1010011#7
  | .fsqrtD rd rs1 rm => rType 0b0101101#7 0b00000#5 rs1 rm rd 0b1010011#7
  | .fsgnjD rd rs1 rs2 => rType 0b0010001#7 rs2 rs1 0b000#3 rd 0b1010011#7
  | .fsgnjnD rd rs1 rs2 => rType 0b0010001#7 rs2 rs1 0b001#3 rd 0b1010011#7
  | .fsgnjxD rd rs1 rs2 => rType 0b0010001#7 rs2 rs1 0b010#3 rd 0b1010011#7
  | .fminD rd rs1 rs2 => rType 0b0010101#7 rs2 rs1 0b000#3 rd 0b1010011#7
  | .fmaxD rd rs1 rs2 => rType 0b0010101#7 rs2 rs1 0b001#3 rd 0b1010011#7
  | .fcvtSD rd rs1 rm => rType 0b0100000#7 0b00001#5 rs1 rm rd 0b1010011#7
  | .fcvtDS rd rs1 rm => rType 0b0100001#7 0b00000#5 rs1 rm rd 0b1010011#7
  | .feqD rd rs1 rs2 => rType 0b1010001#7 rs2 rs1 0b010#3 rd 0b1010011#7
  | .fltD rd rs1 rs2 => rType 0b1010001#7 rs2 rs1 0b001#3 rd 0b1010011#7
  | .fleD rd rs1 rs2 => rType 0b1010001#7 rs2 rs1 0b000#3 rd 0b1010011#7
  | .fclassD rd rs1 => rType 0b1110001#7 0b00000#5 rs1 0b001#3 rd 0b1010011#7
  | .fcvtWD rd rs1 rm => rType 0b1100001#7 0b00000#5 rs1 rm rd 0b1010011#7
  | .fcvtWuD rd rs1 rm => rType 0b1100001#7 0b00001#5 rs1 rm rd 0b1010011#7
  | .fcvtDW rd rs1 rm => rType 0b1101001#7 0b00000#5 rs1 rm rd 0b1010011#7
  | .fcvtDWu rd rs1 rm => rType 0b1101001#7 0b00001#5 rs1 rm rd 0b1010011#7
  | .fcvtLD rd rs1 rm => rType 0b1100001#7 0b00010#5 rs1 rm rd 0b1010011#7
  | .fcvtLuD rd rs1 rm => rType 0b1100001#7 0b00011#5 rs1 rm rd 0b1010011#7
  | .fmvXD rd rs1 => rType 0b1110001#7 0b00000#5 rs1 0b000#3 rd 0b1010011#7
  | .fcvtDL rd rs1 rm => rType 0b1101001#7 0b00010#5 rs1 rm rd 0b1010011#7
  | .fcvtDLu rd rs1 rm => rType 0b1101001#7 0b00011#5 rs1 rm rd 0b1010011#7
  | .fmvDX rd rs1 => rType 0b1111001#7 0b00000#5 rs1 0b000#3 rd 0b1010011#7

end Sys2Proof
end

