-- ==== Sys2Proof/Config.lean ====
section
/-! DEFINITION. What an implementation or the environment fixes (table R5-T, the open parameters of
92_eei_decisions.md), and the free values. Every value chosen here has an entry in notes/assumptions/. -/

namespace Sys2Proof

/-- `RESET_PC`, the pc of the start state (R34, R340). DESIGN CHOICE (log 2), unsafe: the spec leaves it an open
parameter that is a multiple of 4. -/
def Config.resetPc : Word := 0x00000000#32

/-- The start value of each of x1 to x31. DESIGN CHOICE (log 1), unsafe: R34 says "unspecified". -/
def Config.resetRegister : Word := 0x00000000#32

/-- The start value of each of the counters cycle, time and instret. DESIGN CHOICE (log 3), unsafe: R27 to R29 say
"arbitrary start". -/
def Config.resetCounter : Counter := 0x0000000000000000#64

/-- What a memory byte reads as that no entry lists. DESIGN CHOICE (log 4), unsafe: the image is the environment's (R34). -/
def Config.unlistedByte : Byte := 0x00#8

/-- The free value behind the `k`-th read of `cycle` (R27, D23): nothing constrains it. The value read is the larger of
this and the value read before, so that successive reads never decrease (log 7). -/
opaque Config.cycleDraw (k : Nat) : Counter

/-- The free value behind the `k`-th read of `time` (R28, D23), as `Config.cycleDraw` is for `cycle` (log 7). -/
opaque Config.timeDraw (k : Nat) : Counter

end Sys2Proof
end

