-- ==== Sys2Proof/Machine/State.lean ====
section
/-! DEFINITION. What the machine is made of: the architectural state of 10_state.md (x1 to x31, pc, the three
counters, memory, the Dirty set), the environment's parameter Legal/IsIO as data, and the reasons a step stops. -/

namespace Sys2Proof.Machine

/-- The kinds of access `Legal(addr, kind)` tells apart (R53). -/
inductive AccessKind where
  | fetch
  | load
  | store
  deriving DecidableEq, Repr

/-- What a legal address is: plain memory, or I/O, whose behaviour no rule gives (R58, `IsIO` of table R5-T). -/
inductive RegionKind where
  | plain
  | io
  deriving DecidableEq, Repr

/-- One range of byte addresses, `base` to `base + size - 1`, with the accesses the environment allows there: a piece of
the parameter `Legal(addr, kind)` and of `IsIO(addr)` (R53, R58, D6, D9; log 5). -/
structure Region where
  base  : Nat
  size  : Nat
  kind  : RegionKind
  fetch : Bool
  load  : Bool
  store : Bool
  deriving DecidableEq, Repr

/-- Memory as a list of address and byte pairs: addresses rising, no entry equal to what an unlisted address reads as
(`Memory.wf`, in Machine/Memory.lean). It is the map from addresses to bytes of R32. -/
abbrev Memory := List Host.Cell

/-- A set of byte addresses as a strictly rising list (`AddrSet.wf`, in Machine/Memory.lean): the set Dirty of R63. -/
abbrev AddrSet := List Nat

/-- "The complete state of the modelled hart" (10_state.md), with two fields of the model's own at the end. -/
structure State where
  /-- x1 to x31; entry k is x(k+1). x0 has no storage (R20). -/
  x       : Vector Word 31
  /-- The address of the instruction being executed (R23). -/
  pc      : Word
  /-- The counter cycle as last read (R27). -/
  cycle   : Counter
  /-- The counter time as last read (R28). -/
  time    : Counter
  /-- The count of retired instructions (R29). -/
  instret : Counter
  /-- The memory (R32). -/
  mem     : Memory
  /-- The byte addresses stored to since the last FENCE.I (R63). -/
  dirty   : AddrSet
  /-- The model's own: the parameters Legal and IsIO; the first range that covers an address speaks for it, and an
  address in no range is not legal (R53, R58; log 5). No instruction changes it. -/
  regions : List Region
  /-- The model's own: how many reads of cycle and time have been answered (R27, R28; log 7). -/
  draws   : Nat
  deriving DecidableEq, Repr

/-- The seven exceptions of table R301-T. A trap is terminal (R309): each constructor is the trap record (cause, pc,
tval), its name the cause, `pc` the address of the instruction that raised (or whose fetch failed), `tval` the value
column of the table. Safe: the step gives no successor state, as R309 says, and a claim about what follows a trap
cannot be proved (log 8). -/
inductive Fault where
  /-- Raised by JAL, JALR and taken branches whose target is no multiple of 4 (R159, R303), and by a fetch at a pc that
  is none (R9 (1)); `tval` is the target, or the pc. Safe. -/
  | instructionAddressMisaligned (pc tval : Word)
  /-- Raised by a fetch of which some byte is not legal for fetch (R52, R304); `tval` is the pc. Safe. -/
  | instructionAccessFault (pc tval : Word)
  /-- Raised by decode for a word that is no row of table R99-T, listed-only rows included, and by CSR instructions that
  name an absent CSR or would write a read-only one (R100, R200, R302); `tval` is the instruction word. Safe. -/
  | illegalInstruction (pc tval : Word)
  /-- Raised by every EBREAK (R231, R308); `tval` is the pc. Safe. -/
  | breakpoint (pc tval : Word)
  /-- Raised by LB, LH, LW, LBU, LHU when a byte of the access is not legal for load (R305); `tval` is the effective
  address. Safe. -/
  | loadAccessFault (pc tval : Word)
  /-- Raised by SB, SH, SW when a byte of the access is not legal for store (R306); `tval` is the effective address.
  Safe. -/
  | storeAccessFault (pc tval : Word)
  /-- Raised by every ECALL (R230, R307); `tval` is 0. Safe. -/
  | environmentCall (pc tval : Word)
  deriving DecidableEq, Repr

/-- What the spec gives no meaning. -/
inductive Refusal where
  /-- An instruction without a meaning yet; no arm of `exec` answers it. Safe. -/
  | notModelled (mnemonic : String)
  /-- Raised by a fetch of which some byte is Dirty: "a fetch any of whose four bytes is in `Dirty` is **refused**" (R63,
  D11). `addr` is the pc. Safe. -/
  | dirtyFetch (addr : Word)
  /-- Raised by a fetch, load or store that touches an I/O address: "the model refuses (gives no meaning to) an access to
  an address marked `IsIO`" (R58, D9). `addr` is the address of the access. Safe. -/
  | ioAccess (addr : Word)
  deriving DecidableEq, Repr

/-- What one step of this machine answers. -/
abbrev Result := Host.Outcome State Fault Refusal

/-- The reset map: every address plain memory, every access legal. DESIGN CHOICE (log 5), unsafe: R53 and R58 leave the
map to the environment. -/
def State.resetRegions : List Region :=
  [{ base := 0, size := 2 ^ 32, kind := .plain, fetch := true, load := true, store := true }]

/-- The start state of table R34-T, what the spec leaves unspecified at the values of Config (logs 1 to 5, 7): Dirty
empty and x0 zero as the table says. -/
def State.reset : State where
  x       := Vector.replicate 31 Config.resetRegister
  pc      := Config.resetPc
  cycle   := Config.resetCounter
  time    := Config.resetCounter
  instret := Config.resetCounter
  mem     := []
  dirty   := []
  regions := State.resetRegions
  draws   := 0

end Sys2Proof.Machine
end

