-- ==== Sys2Proof/Machine/Memory.lean ====
section
/-! DEFINITION. Memory and address sets as canonical lists, the byte addresses of an access, and little-endian reading
and writing of several bytes (20_memory.md, R50 to R52). -/

namespace Sys2Proof.Machine

/-- The byte at an address; an unlisted address reads as `Config.unlistedByte` (log 4). -/
def Memory.read : Memory → Nat → Byte
  | [], _ => Config.unlistedByte
  | (b, v) :: rest, a => if b = a then v else Memory.read rest a

/-- The entry for a byte at an address, put in front, if it is one the canonical form lists. -/
def Memory.consEntry (a : Nat) (v : Byte) (m : Memory) : Memory :=
  if v = Config.unlistedByte then m else (a, v) :: m

/-- Sets the byte at an address, keeping the canonical form: writing what an unlisted address reads as removes the
entry. -/
def Memory.write : Memory → Nat → Byte → Memory
  | [], a, v => Memory.consEntry a v []
  | (b, u) :: rest, a, v =>
    if a < b then Memory.consEntry a v ((b, u) :: rest)
    else if a = b then Memory.consEntry a v rest
    else (b, u) :: Memory.write rest a v

/-- The canonical form: strictly rising addresses below 2^32, no entry an unlisted address would read as. -/
abbrev Memory.wf (m : Memory) : Prop :=
  m.Pairwise (fun c d => c.1 < d.1) ∧ ∀ c ∈ m, c.1 < 2 ^ 32 ∧ c.2 ≠ Config.unlistedByte

/-- Adds an address to a set. -/
def AddrSet.insert : AddrSet → Nat → AddrSet
  | [], a => [a]
  | b :: rest, a => if a < b then a :: b :: rest else if a = b then b :: rest else b :: AddrSet.insert rest a

/-- Adds several addresses to a set. -/
def AddrSet.insertAll : AddrSet → List Nat → AddrSet
  | d, [] => d
  | d, a :: rest => AddrSet.insertAll (AddrSet.insert d a) rest

/-- The canonical form of a set of byte addresses: strictly rising, below 2^32. -/
abbrev AddrSet.wf (d : AddrSet) : Prop :=
  d.Pairwise (· < ·) ∧ ∀ a ∈ d, a < 2 ^ 32

/-- The byte addresses `a, a+1, ..., a+n-1` of an n-byte access, each modulo 2^32 (R50, D4). -/
def accessAddrs : Word → Nat → List Nat
  | _, 0 => []
  | a, n + 1 => a.toNat :: accessAddrs (a + 1#32) n

/-- The `n` bytes at `a`, the lowest address first (R51). -/
def Memory.readBytes : Memory → Word → Nat → List Byte
  | _, _, 0 => []
  | m, a, n + 1 => m.read a.toNat :: Memory.readBytes m (a + 1#32) n

/-- Stores bytes at `a, a+1, ...` (R51). -/
def Memory.writeBytes : Memory → Word → List Byte → Memory
  | m, _, [] => m
  | m, a, b :: bs => Memory.writeBytes (m.write a.toNat b) (a + 1#32) bs

/-- `MemRead(a, n)` without its check: the 8n-bit little-endian value at `a` (R51). -/
def Memory.readValue (m : Memory) (a : Word) (n : Nat) : BitVec (8 * n) :=
  (wordOfBytes (m.readBytes a n)).setWidth (8 * n)

/-- `MemWrite(a, n, v)` without its check: the low 8n bits of `v` stored little-endian at `a` (R51). -/
def Memory.writeValue (m : Memory) (a : Word) (n : Nat) (v : Word) : Memory :=
  m.writeBytes a (bytesOfWord n v)

end Sys2Proof.Machine
end

