-- ==== Sys2Proof/Machine/Ops.lean ====
section
/-! DEFINITION. The operations the meanings share: reading and writing registers, retiring, raising an exception, the
checked memory access, and the counters. -/

namespace Sys2Proof.Machine

/-! ## Registers and the pc -/

/-- Where x1 to x31 stand in the register file. -/
theorem regIndex_lt {r : RegId} (h : r ≠ 0#5) : r.toNat - 1 < 31 := by
  have := r.isLt
  have : r.toNat ≠ 0 := fun e => h (BitVec.eq_of_toNat_eq (by simpa using e))
  omega

/-- Reading register number `r` of the file: x0 yields 0 (R20). -/
def RegFile.get (x : Vector Word 31) (r : RegId) : Word :=
  if h : r = 0#5 then 0#32 else x[r.toNat - 1]'(regIndex_lt h)

/-- Writing register number `r` of the file: a write to x0 is discarded (R20). -/
def RegFile.set (x : Vector Word 31) (r : RegId) (v : Word) : Vector Word 31 :=
  if h : r = 0#5 then x else x.set (r.toNat - 1) v (regIndex_lt h)

/-- `x[r]` (R8). -/
def State.reg (s : State) (r : RegId) : Word := RegFile.get s.x r

/-- `x[r] <- v` (R8). -/
def State.writeReg (s : State) (r : RegId) (v : Word) : State := { s with x := RegFile.set s.x r v }

/-- Retiring with the next instruction at `t`: `pc <- t` and `instret <- instret + 1` modulo 2^64 (R9, R29). -/
def State.retireTo (s : State) (t : Word) : State :=
  { s with pc := t, instret := s.instret + 1#64 }

/-- Retiring in sequence: `pc <- pc + 4` modulo 2^32 (R9 (4), (5), R24). -/
def State.retire (s : State) : State := s.retireTo (s.pc + 4#32)

/-! ## Exceptions -/

/-- Trap entry (R309, R310): the step gives no successor state and the run ends with the record (cause, pc of the
instruction, tval); nothing is saved, no mode changes, control goes to no handler of the machine. There is no return
from it (R314). -/
def raise (cause : Word → Word → Fault) (tval : Word) (s : State) : Result :=
  .fault (cause s.pc tval)

/-- IllegalInstruction raised by an instruction itself; the record's value is the instruction word (R302). -/
def illegal (i : Instr) (s : State) : Result :=
  raise .illegalInstruction (encode i) s

/-! ## The address map -/

/-- Whether a range covers an address. -/
def Region.covers (r : Region) (a : Nat) : Bool := decide (r.base ≤ a) && decide (a < r.base + r.size)

/-- Whether a range allows a kind of access. -/
def Region.allows (r : Region) : AccessKind → Bool
  | .fetch => r.fetch
  | .load => r.load
  | .store => r.store

/-- The range that speaks for an address: the first that covers it (log 5). -/
def State.regionAt (s : State) (a : Nat) : Option Region := s.regions.find? (·.covers a)

/-- `Legal(addr, kind)` (R53). -/
def State.legal (s : State) (kind : AccessKind) (a : Nat) : Bool :=
  match s.regionAt a with
  | some r => r.allows kind
  | none => false

/-- `IsIO(addr)` (R58). -/
def State.isIO (s : State) (a : Nat) : Bool :=
  match s.regionAt a with
  | some r => decide (r.kind = .io)
  | none => false

/-- Every byte of the access is legal (R51: both primitives check every byte before touching any). -/
def State.accessLegal (s : State) (kind : AccessKind) (a : Word) (n : Nat) : Bool :=
  (accessAddrs a n).all (s.legal kind)

/-- Some byte of the access is I/O (R58). -/
def State.accessIO (s : State) (a : Word) (n : Nat) : Bool := (accessAddrs a n).any s.isIO

/-- Some byte of the access is Dirty (R63). -/
def State.accessDirty (s : State) (a : Word) (n : Nat) : Bool :=
  (accessAddrs a n).any (fun b => decide (b ∈ s.dirty))

/-! ## Writing results -/

/-- `x[rd] <- v`, then the ordinary end of the step (R9, R120). -/
def retireWith (rd : RegId) (v : Word) (s : State) : Result := .next (s.writeReg rd v).retire

/-- A load of `n` bytes at `ea` whose extended value is `v` (R170): the check for every byte, then the register. With
rd = x0 the check is made all the same (R179). -/
def loadInto (rd : RegId) (ea : Word) (n : Nat) (v : Word) (s : State) : Result :=
  if s.accessLegal .load ea n then
    if s.accessIO ea n then .refused (.ioAccess ea) else retireWith rd v s
  else raise .loadAccessFault ea s

/-- The state after `n` bytes of `v` are stored at `ea`: the bytes written, their addresses added to Dirty (R51, R63). -/
def State.stored (s : State) (ea : Word) (n : Nat) (v : Word) : State :=
  { s with mem := s.mem.writeValue ea n v, dirty := s.dirty.insertAll (accessAddrs ea n) }

/-- A store of the low `n` bytes of `v` at `ea` (R170): the check for every byte, then the bytes. -/
def storeFrom (ea : Word) (n : Nat) (v : Word) (s : State) : Result :=
  if s.accessLegal .store ea n then
    if s.accessIO ea n then .refused (.ioAccess ea) else .next (s.stored ea n v).retire
  else raise .storeAccessFault ea s

/-! ## Transfers -/

/-- `t[1:0] != 0`: a target that is not four-byte aligned (R159). -/
def misaligned (t : Word) : Bool := decide (t.extractLsb' 0 2 ≠ 0#2)

/-- A jump to `t` that links: the test, then `x[rd] <- pc + 4` and `pc <- t` together (R151, R152, R159, D25). -/
def jumpAndLink (rd : RegId) (t : Word) (s : State) : Result :=
  if misaligned t then raise .instructionAddressMisaligned t s
  else .next ((s.writeReg rd (s.pc + 4#32)).retireTo t)

/-- A conditional branch to `t` (R153, R159): the target is tested only when the branch is taken. -/
def branchIf (taken : Bool) (t : Word) (s : State) : Result :=
  if taken then
    if misaligned t then raise .instructionAddressMisaligned t s else .next (s.retireTo t)
  else .next s.retire

/-! ## The counters cycle and time -/

/-- The larger of two counter values, as unsigned numbers. -/
def laterOf (a b : Counter) : Counter := if a.toNat ≤ b.toNat then b else a

/-- A read of cycle is a draw, not below the value read before (R27, D23; log 7). -/
def State.drawCycle (s : State) : State :=
  { s with cycle := laterOf s.cycle (Config.cycleDraw s.draws), draws := s.draws + 1 }

/-- A read of time is a draw, not below the value read before (R28, D23; log 7). -/
def State.drawTime (s : State) : State :=
  { s with time := laterOf s.time (Config.timeDraw s.draws), draws := s.draws + 1 }

/-- Bits 31 to 0 of a counter (R27 to R29). -/
def lowHalf (c : Counter) : Word := c.extractLsb' 0 32

/-- Bits 63 to 32 of a counter (R27 to R29). -/
def highHalf (c : Counter) : Word := c.extractLsb' 32 32

end Sys2Proof.Machine
end

