-- ==== Sys2Proof/Machine/Atomic.lean ====
section
/-! DEFINITION. The A extension rows the source lists (47_listed_only.md R271, R272). Every word of these
rows raises IllegalInstruction on this hardware (R100), recording the word (R302). -/

namespace Sys2Proof.Machine

/-- LR.W: not in this hardware, IllegalInstruction (R271, R100). -/
def execLrW (rd rs1 : RegId) (aq rl : BitVec 1) (s : State) : Result :=
  illegal (.lrW rd rs1 aq rl) s

/-- SC.W: not in this hardware, IllegalInstruction (R271, R100). -/
def execScW (rd rs1 rs2 : RegId) (aq rl : BitVec 1) (s : State) : Result :=
  illegal (.scW rd rs1 rs2 aq rl) s

/-- AMOSWAP.W: not in this hardware, IllegalInstruction (R271, R100). -/
def execAmoswapW (rd rs1 rs2 : RegId) (aq rl : BitVec 1) (s : State) : Result :=
  illegal (.amoswapW rd rs1 rs2 aq rl) s

/-- AMOADD.W: not in this hardware, IllegalInstruction (R271, R100). -/
def execAmoaddW (rd rs1 rs2 : RegId) (aq rl : BitVec 1) (s : State) : Result :=
  illegal (.amoaddW rd rs1 rs2 aq rl) s

/-- AMOXOR.W: not in this hardware, IllegalInstruction (R271, R100). -/
def execAmoxorW (rd rs1 rs2 : RegId) (aq rl : BitVec 1) (s : State) : Result :=
  illegal (.amoxorW rd rs1 rs2 aq rl) s

/-- AMOAND.W: not in this hardware, IllegalInstruction (R271, R100). -/
def execAmoandW (rd rs1 rs2 : RegId) (aq rl : BitVec 1) (s : State) : Result :=
  illegal (.amoandW rd rs1 rs2 aq rl) s

/-- AMOOR.W: not in this hardware, IllegalInstruction (R271, R100). -/
def execAmoorW (rd rs1 rs2 : RegId) (aq rl : BitVec 1) (s : State) : Result :=
  illegal (.amoorW rd rs1 rs2 aq rl) s

/-- AMOMIN.W: not in this hardware, IllegalInstruction (R271, R100). -/
def execAmominW (rd rs1 rs2 : RegId) (aq rl : BitVec 1) (s : State) : Result :=
  illegal (.amominW rd rs1 rs2 aq rl) s

/-- AMOMAX.W: not in this hardware, IllegalInstruction (R271, R100). -/
def execAmomaxW (rd rs1 rs2 : RegId) (aq rl : BitVec 1) (s : State) : Result :=
  illegal (.amomaxW rd rs1 rs2 aq rl) s

/-- AMOMINU.W: not in this hardware, IllegalInstruction (R271, R100). -/
def execAmominuW (rd rs1 rs2 : RegId) (aq rl : BitVec 1) (s : State) : Result :=
  illegal (.amominuW rd rs1 rs2 aq rl) s

/-- AMOMAXU.W: not in this hardware, IllegalInstruction (R271, R100). -/
def execAmomaxuW (rd rs1 rs2 : RegId) (aq rl : BitVec 1) (s : State) : Result :=
  illegal (.amomaxuW rd rs1 rs2 aq rl) s

/-- LR.D: not in this hardware, IllegalInstruction (R272, R100). -/
def execLrD (rd rs1 : RegId) (aq rl : BitVec 1) (s : State) : Result :=
  illegal (.lrD rd rs1 aq rl) s

/-- SC.D: not in this hardware, IllegalInstruction (R272, R100). -/
def execScD (rd rs1 rs2 : RegId) (aq rl : BitVec 1) (s : State) : Result :=
  illegal (.scD rd rs1 rs2 aq rl) s

/-- AMOSWAP.D: not in this hardware, IllegalInstruction (R272, R100). -/
def execAmoswapD (rd rs1 rs2 : RegId) (aq rl : BitVec 1) (s : State) : Result :=
  illegal (.amoswapD rd rs1 rs2 aq rl) s

/-- AMOADD.D: not in this hardware, IllegalInstruction (R272, R100). -/
def execAmoaddD (rd rs1 rs2 : RegId) (aq rl : BitVec 1) (s : State) : Result :=
  illegal (.amoaddD rd rs1 rs2 aq rl) s

/-- AMOXOR.D: not in this hardware, IllegalInstruction (R272, R100). -/
def execAmoxorD (rd rs1 rs2 : RegId) (aq rl : BitVec 1) (s : State) : Result :=
  illegal (.amoxorD rd rs1 rs2 aq rl) s

/-- AMOAND.D: not in this hardware, IllegalInstruction (R272, R100). -/
def execAmoandD (rd rs1 rs2 : RegId) (aq rl : BitVec 1) (s : State) : Result :=
  illegal (.amoandD rd rs1 rs2 aq rl) s

/-- AMOOR.D: not in this hardware, IllegalInstruction (R272, R100). -/
def execAmoorD (rd rs1 rs2 : RegId) (aq rl : BitVec 1) (s : State) : Result :=
  illegal (.amoorD rd rs1 rs2 aq rl) s

/-- AMOMIN.D: not in this hardware, IllegalInstruction (R272, R100). -/
def execAmominD (rd rs1 rs2 : RegId) (aq rl : BitVec 1) (s : State) : Result :=
  illegal (.amominD rd rs1 rs2 aq rl) s

/-- AMOMAX.D: not in this hardware, IllegalInstruction (R272, R100). -/
def execAmomaxD (rd rs1 rs2 : RegId) (aq rl : BitVec 1) (s : State) : Result :=
  illegal (.amomaxD rd rs1 rs2 aq rl) s

/-- AMOMINU.D: not in this hardware, IllegalInstruction (R272, R100). -/
def execAmominuD (rd rs1 rs2 : RegId) (aq rl : BitVec 1) (s : State) : Result :=
  illegal (.amominuD rd rs1 rs2 aq rl) s

/-- AMOMAXU.D: not in this hardware, IllegalInstruction (R272, R100). -/
def execAmomaxuD (rd rs1 rs2 : RegId) (aq rl : BitVec 1) (s : State) : Result :=
  illegal (.amomaxuD rd rs1 rs2 aq rl) s

end Sys2Proof.Machine
end

