-- ==== Sys2Proof/Machine/Operands.lean ====
section
/-! DEFINITION. What the operand fields stand for: extended immediates (R89 to R93, R95), shift amounts (R94, R143 (e)),
effective addresses (R170), transfer targets (R151 to R153), and the results of shifting, multiplying and dividing. -/

namespace Sys2Proof.Machine

/-- `sext_32` of a 12-bit I- or S-immediate (R89, R90): "immediates are always sign-extended" (R82). -/
def sextImm (imm : BitVec 12) : Word := imm.signExtend 32

/-- `U_imm = inst[31:12] ++ 0x000` (R92). -/
def upperImm (imm : BitVec 20) : Word := place 32 12 imm

/-- `zext_32(uimm)`, 0 to 31 (R95). -/
def zextUimm (uimm : BitVec 5) : Word := uimm.setWidth 32

/-- The effective address `x[rs1] + sext_32(imm)`, modulo 2^32 (R170, R50, D4). -/
def effectiveAddr (s : State) (rs1 : RegId) (imm : BitVec 12) : Word := s.reg rs1 + sextImm imm

/-- The target `pc + J_imm` of JAL (R93, R151). -/
def jalTarget (s : State) (imm : BitVec 21) : Word := s.pc + imm.signExtend 32

/-- The target `(x[rs1] + sext_32(imm)) & 0xFFFFFFFE` of JALR (R152). -/
def jalrTarget (s : State) (rs1 : RegId) (imm : BitVec 12) : Word := (s.reg rs1 + sextImm imm) &&& 0xFFFFFFFE#32

/-- The target `pc + B_imm` of a branch (R91, R153). -/
def branchTarget (s : State) (imm : BitVec 13) : Word := s.pc + imm.signExtend 32

/-- The shift amount of SLL, SRL, SRA: "the lower 5 bits of register rs2" (R134). -/
def shiftAmount (v : Word) : BitVec 5 := v.extractLsb' 0 5

/-- `v << k`, zeros in from the right, kept to 32 bits (R7, R127, R134). -/
def shiftLeft (v : Word) (k : BitVec 5) : Word := v <<< k.toNat

/-- `v >>u k`, zeros in from the left (R7, R128, R138). -/
def shiftRightLogical (v : Word) (k : BitVec 5) : Word := v >>> k.toNat

/-- `v >>s k`, copies of the sign bit in from the left (R7, R129, R139). -/
def shiftRightArith (v : Word) (k : BitVec 5) : Word := v.sshiftRight k.toNat

/-- Bits 63 to 32 of the two's-complement representation of an exact product (46_muldiv.md, notation). -/
def upperProduct (p : Int) : Word := (BitVec.ofInt 64 p).extractLsb' 32 32

/-- `(x[rs1] * x[rs2])[31:0]` (R241). -/
def mulLow (a b : Word) : Word := BitVec.ofInt 32 (a.toInt * b.toInt)

/-- `(s(a) * s(b))[63:32]` (R242). -/
def mulHighSigned (a b : Word) : Word := upperProduct (a.toInt * b.toInt)

/-- `(s(a) * u(b))[63:32]`: rs1 signed, rs2 unsigned. PRESUMED by the spec itself (R243, G12; log 18). -/
def mulHighSignedUnsigned (a b : Word) : Word := upperProduct (a.toInt * (b.toNat : Int))

/-- `(u(a) * u(b))[63:32]` (R244). -/
def mulHighUnsigned (a b : Word) : Word := upperProduct ((a.toNat : Int) * (b.toNat : Int))

/-- Signed quotient: all ones for a divisor of 0, the dividend on overflow, else the exact quotient rounded toward zero
(R245, R249). Rounding toward zero is PRESUMED by the spec itself (G11; log 17). -/
def divSigned (a b : Word) : Word :=
  if b = 0#32 then 0xFFFFFFFF#32
  else if a = 0x80000000#32 ∧ b = 0xFFFFFFFF#32 then 0x80000000#32
  else BitVec.ofInt 32 (a.toInt.tdiv b.toInt)

/-- Unsigned quotient: 2^32 - 1 for a divisor of 0 (R246, R249). -/
def divUnsigned (a b : Word) : Word :=
  if b = 0#32 then 0xFFFFFFFF#32 else BitVec.ofNat 32 (a.toNat / b.toNat)

/-- Signed remainder of the corresponding division: the dividend for a divisor of 0, 0 on overflow (R247, R249; G11,
log 17). -/
def remSigned (a b : Word) : Word :=
  if b = 0#32 then a
  else if a = 0x80000000#32 ∧ b = 0xFFFFFFFF#32 then 0#32
  else BitVec.ofInt 32 (a.toInt - b.toInt * a.toInt.tdiv b.toInt)

/-- Unsigned remainder: the dividend for a divisor of 0 (R248, R249). -/
def remUnsigned (a b : Word) : Word :=
  if b = 0#32 then a else BitVec.ofNat 32 (a.toNat % b.toNat)

end Sys2Proof.Machine
end

