-- ==== Sys2Proof/Machine/Flags.lean ====
section
/-! DEFINITION. The hardware has no flags, condition codes or predicate registers (R25), so no instruction computes one.
What stands in their place are the comparisons of two values, which the branches and the set-less-than instructions
make afresh each time (R122, R123, R135, R136, R153 to R158). -/

namespace Sys2Proof.Machine

/-- `signed(a) < signed(b)` (R7). -/
def lessSigned (a b : Word) : Bool := decide (a.toInt < b.toInt)

/-- `unsigned(a) < unsigned(b)` (R7). -/
def lessUnsigned (a b : Word) : Bool := decide (a.toNat < b.toNat)

/-- `a = b` (R153). -/
def equalWords (a b : Word) : Bool := decide (a = b)

/-- A comparison's result in a register: exactly 1 or 0 (R143 (f)). -/
def boolWord (c : Bool) : Word := if c then 1#32 else 0#32

end Sys2Proof.Machine
end

