-- ==== Sys2Proof/Machine/Control.lean ====
section
/-! DEFINITION. The control transfer instructions (41_control_transfer.md). RAS hints change nothing (R161); there are no delay slots
(R160). -/

namespace Sys2Proof.Machine

/-- JAL (R151): relative to the address of the JAL itself. -/
def execJal (rd : RegId) (imm : BitVec 21) (s : State) : Result :=
  jumpAndLink rd (jalTarget s imm) s

/-- JALR (R152): the target is taken from the old x[rs1], bit 0 cleared after the addition. -/
def execJalr (rd rs1 : RegId) (imm : BitVec 12) (s : State) : Result :=
  jumpAndLink rd (jalrTarget s rs1 imm) s

/-- BEQ (R153). -/
def execBeq (rs1 rs2 : RegId) (imm : BitVec 13) (s : State) : Result :=
  branchIf (equalWords (s.reg rs1) (s.reg rs2)) (branchTarget s imm) s

/-- BNE (R154). -/
def execBne (rs1 rs2 : RegId) (imm : BitVec 13) (s : State) : Result :=
  branchIf (!equalWords (s.reg rs1) (s.reg rs2)) (branchTarget s imm) s

/-- BLT (R155). -/
def execBlt (rs1 rs2 : RegId) (imm : BitVec 13) (s : State) : Result :=
  branchIf (lessSigned (s.reg rs1) (s.reg rs2)) (branchTarget s imm) s

/-- BGE (R156): `>=s` is the negation of `<s`. -/
def execBge (rs1 rs2 : RegId) (imm : BitVec 13) (s : State) : Result :=
  branchIf (!lessSigned (s.reg rs1) (s.reg rs2)) (branchTarget s imm) s

/-- BLTU (R157). -/
def execBltu (rs1 rs2 : RegId) (imm : BitVec 13) (s : State) : Result :=
  branchIf (lessUnsigned (s.reg rs1) (s.reg rs2)) (branchTarget s imm) s

/-- BGEU (R158): `>=u` is the negation of `<u`. -/
def execBgeu (rs1 rs2 : RegId) (imm : BitVec 13) (s : State) : Result :=
  branchIf (!lessUnsigned (s.reg rs1) (s.reg rs2)) (branchTarget s imm) s

end Sys2Proof.Machine
end

