-- ==== Sys2Proof/Machine/Csr.lean ====
section
/-! DEFINITION. The CSR instructions and the counters (44_csr_counters.md). -/

namespace Sys2Proof.Machine

/-- `Exists(a)`: the six counter CSRs and no other (R26, R200, D15). -/
def csrExists (a : CsrId) : Bool :=
  match a with
  | 0xC00#12 => true
  | 0xC01#12 => true
  | 0xC02#12 => true
  | 0xC80#12 => true
  | 0xC81#12 => true
  | 0xC82#12 => true
  | _ => false

/-- `Writable(a)` is false for every CSR number (R200, D15). -/
def csrWritable (_a : CsrId) : Bool := false

/-- Reading a CSR: the value, and the state after the read (R200). A read of cycle or time is a draw (R27, R28, D23); a
read of instret is its value before the instruction (R29, R207). A number that does not exist is never read. -/
def csrRead (a : CsrId) (s : State) : Word × State :=
  match a with
  | 0xC00#12 => (lowHalf s.drawCycle.cycle, s.drawCycle)
  | 0xC80#12 => (highHalf s.drawCycle.cycle, s.drawCycle)
  | 0xC01#12 => (lowHalf s.drawTime.time, s.drawTime)
  | 0xC81#12 => (highHalf s.drawTime.time, s.drawTime)
  | 0xC02#12 => (lowHalf s.instret, s)
  | 0xC82#12 => (highHalf s.instret, s)
  | _ => (0#32, s)

/-- A counter with its bits 31 to 0, or 63 to 32, replaced. -/
def withHalf (c : Counter) (high : Bool) (v : Word) : Counter :=
  if high then place 64 32 v ||| place 64 0 (lowHalf c) else place 64 32 (highHalf c) ||| place 64 0 v

/-- `CSR[a] <- v` (R8, R200). No CSR of this hardware is writable, so no instruction reaches it (log 21). -/
def csrWrite (a : CsrId) (v : Word) (s : State) : State :=
  match a with
  | 0xC00#12 => { s with cycle := withHalf s.cycle false v }
  | 0xC80#12 => { s with cycle := withHalf s.cycle true v }
  | 0xC01#12 => { s with time := withHalf s.time false v }
  | 0xC81#12 => { s with time := withHalf s.time true v }
  | 0xC02#12 => { s with instret := withHalf s.instret false v }
  | 0xC82#12 => { s with instret := withHalf s.instret true v }
  | _ => s

/-- The steps common to the six (R200): the two checks, before anything is read; the read, if the form reads; rd; and the
write, if the form writes, which comes after the instruction's own increment of instret (R207). `new` gives the value to
write from the old one. -/
def csrAccess (i : Instr) (rd : RegId) (csr : CsrId) (reads writes : Bool) (new : Word → Word) (s : State) : Result :=
  if !csrExists csr then illegal i s
  else if writes && !csrWritable csr then illegal i s
  else
    let got := if reads then csrRead csr s else (0#32, s)
    let done := (got.2.writeReg rd got.1).retire
    .next (if writes then csrWrite csr (new got.1) done else done)

/-- A register number or immediate field that is not zero: the test is on the field, not on a value (R202, R205). -/
def fieldSet (f : BitVec 5) : Bool := decide (f ≠ 0#5)

/-- CSRRW (R201): reads unless rd is x0, always writes. -/
def execCsrrw (rd : RegId) (csr : CsrId) (rs1 : RegId) (s : State) : Result :=
  csrAccess (.csrrw rd csr rs1) rd csr (fieldSet rd) true (fun _ => s.reg rs1) s

/-- CSRRS (R202): always reads, writes unless rs1 is x0. -/
def execCsrrs (rd : RegId) (csr : CsrId) (rs1 : RegId) (s : State) : Result :=
  csrAccess (.csrrs rd csr rs1) rd csr true (fieldSet rs1) (fun old => old ||| s.reg rs1) s

/-- CSRRC (R203): always reads, writes unless rs1 is x0. -/
def execCsrrc (rd : RegId) (csr : CsrId) (rs1 : RegId) (s : State) : Result :=
  csrAccess (.csrrc rd csr rs1) rd csr true (fieldSet rs1) (fun old => old &&& ~~~(s.reg rs1)) s

/-- CSRRWI (R204): reads unless rd is x0, always writes. -/
def execCsrrwi (rd : RegId) (csr : CsrId) (uimm : BitVec 5) (s : State) : Result :=
  csrAccess (.csrrwi rd csr uimm) rd csr (fieldSet rd) true (fun _ => zextUimm uimm) s

/-- CSRRSI (R205): always reads, writes unless uimm is 0. -/
def execCsrrsi (rd : RegId) (csr : CsrId) (uimm : BitVec 5) (s : State) : Result :=
  csrAccess (.csrrsi rd csr uimm) rd csr true (fieldSet uimm) (fun old => old ||| zextUimm uimm) s

/-- CSRRCI (R206): always reads, writes unless uimm is 0. -/
def execCsrrci (rd : RegId) (csr : CsrId) (uimm : BitVec 5) (s : State) : Result :=
  csrAccess (.csrrci rd csr uimm) rd csr true (fieldSet uimm) (fun old => old &&& ~~~(zextUimm uimm)) s

end Sys2Proof.Machine
end

