-- ==== Sys2Proof/Machine/Environment.lean ====
section
/-! DEFINITION. Environment call and breakpoint (45_environment.md). The trap is terminal: the run ends with the record and the
environment, which no rule describes, has the state as it was before the instruction (R309, R310, D24). -/

namespace Sys2Proof.Machine

/-- ECALL (R230, R307): the request is a trap that hands the whole state to the environment. -/
def execEcall (s : State) : Result :=
  raise .environmentCall 0#32 s

/-- EBREAK (R231, R308): the recorded value is the pc. -/
def execEbreak (s : State) : Result :=
  raise .breakpoint s.pc s

end Sys2Proof.Machine
end

