-- ==== Sys2Proof/Machine/Fence.lean ====
section
/-! DEFINITION. The memory ordering instructions (43_fence.md). -/

namespace Sys2Proof.Machine

/-- FENCE (R190, R61): "skip" for every `pred` and `succ`, in a machine with one hart and no device (D10; log 12). -/
def execFence (_pred _succ : BitVec 4) (s : State) : Result :=
  .next s.retire

/-- FENCE.I (R191, R63): `Dirty <- empty`. -/
def execFenceI (s : State) : Result :=
  .next (State.retire { s with dirty := [] })

end Sys2Proof.Machine
end

