-- ==== Sys2Proof/Machine/Float.lean ====
section
/-! DEFINITION. The F and D extension rows the source lists (47_listed_only.md R273 to R276). Every word of these
rows raises IllegalInstruction on this hardware (R100), recording the word (R302). -/

namespace Sys2Proof.Machine

/-- FLW: not in this hardware, IllegalInstruction (R273, R100). -/
def execFlw (rd rs1 : RegId) (imm : BitVec 12) (s : State) : Result :=
  illegal (.flw rd rs1 imm) s

/-- FSW: not in this hardware, IllegalInstruction (R273, R100). -/
def execFsw (rs1 rs2 : RegId) (imm : BitVec 12) (s : State) : Result :=
  illegal (.fsw rs1 rs2 imm) s

/-- FMADD.S: not in this hardware, IllegalInstruction (R273, R100). -/
def execFmaddS (rd rs1 rs2 rs3 : RegId) (rm : BitVec 3) (s : State) : Result :=
  illegal (.fmaddS rd rs1 rs2 rs3 rm) s

/-- FMSUB.S: not in this hardware, IllegalInstruction (R273, R100). -/
def execFmsubS (rd rs1 rs2 rs3 : RegId) (rm : BitVec 3) (s : State) : Result :=
  illegal (.fmsubS rd rs1 rs2 rs3 rm) s

/-- FNMSUB.S: not in this hardware, IllegalInstruction (R273, R100). -/
def execFnmsubS (rd rs1 rs2 rs3 : RegId) (rm : BitVec 3) (s : State) : Result :=
  illegal (.fnmsubS rd rs1 rs2 rs3 rm) s

/-- FNMADD.S: not in this hardware, IllegalInstruction (R273, R100). -/
def execFnmaddS (rd rs1 rs2 rs3 : RegId) (rm : BitVec 3) (s : State) : Result :=
  illegal (.fnmaddS rd rs1 rs2 rs3 rm) s

/-- FADD.S: not in this hardware, IllegalInstruction (R273, R100). -/
def execFaddS (rd rs1 rs2 : RegId) (rm : BitVec 3) (s : State) : Result :=
  illegal (.faddS rd rs1 rs2 rm) s

/-- FSUB.S: not in this hardware, IllegalInstruction (R273, R100). -/
def execFsubS (rd rs1 rs2 : RegId) (rm : BitVec 3) (s : State) : Result :=
  illegal (.fsubS rd rs1 rs2 rm) s

/-- FMUL.S: not in this hardware, IllegalInstruction (R273, R100). -/
def execFmulS (rd rs1 rs2 : RegId) (rm : BitVec 3) (s : State) : Result :=
  illegal (.fmulS rd rs1 rs2 rm) s

/-- FDIV.S: not in this hardware, IllegalInstruction (R273, R100). -/
def execFdivS (rd rs1 rs2 : RegId) (rm : BitVec 3) (s : State) : Result :=
  illegal (.fdivS rd rs1 rs2 rm) s

/-- FSQRT.S: not in this hardware, IllegalInstruction (R273, R100). -/
def execFsqrtS (rd rs1 : RegId) (rm : BitVec 3) (s : State) : Result :=
  illegal (.fsqrtS rd rs1 rm) s

/-- FSGNJ.S: not in this hardware, IllegalInstruction (R273, R100). -/
def execFsgnjS (rd rs1 rs2 : RegId) (s : State) : Result :=
  illegal (.fsgnjS rd rs1 rs2) s

/-- FSGNJN.S: not in this hardware, IllegalInstruction (R273, R100). -/
def execFsgnjnS (rd rs1 rs2 : RegId) (s : State) : Result :=
  illegal (.fsgnjnS rd rs1 rs2) s

/-- FSGNJX.S: not in this hardware, IllegalInstruction (R273, R100). -/
def execFsgnjxS (rd rs1 rs2 : RegId) (s : State) : Result :=
  illegal (.fsgnjxS rd rs1 rs2) s

/-- FMIN.S: not in this hardware, IllegalInstruction (R273, R100). -/
def execFminS (rd rs1 rs2 : RegId) (s : State) : Result :=
  illegal (.fminS rd rs1 rs2) s

/-- FMAX.S: not in this hardware, IllegalInstruction (R273, R100). -/
def execFmaxS (rd rs1 rs2 : RegId) (s : State) : Result :=
  illegal (.fmaxS rd rs1 rs2) s

/-- FCVT.W.S: not in this hardware, IllegalInstruction (R273, R100). -/
def execFcvtWS (rd rs1 : RegId) (rm : BitVec 3) (s : State) : Result :=
  illegal (.fcvtWS rd rs1 rm) s

/-- FCVT.WU.S: not in this hardware, IllegalInstruction (R273, R100). -/
def execFcvtWuS (rd rs1 : RegId) (rm : BitVec 3) (s : State) : Result :=
  illegal (.fcvtWuS rd rs1 rm) s

/-- FMV.X.W: not in this hardware, IllegalInstruction (R273, R100). -/
def execFmvXW (rd rs1 : RegId) (s : State) : Result :=
  illegal (.fmvXW rd rs1) s

/-- FEQ.S: not in this hardware, IllegalInstruction (R273, R100). -/
def execFeqS (rd rs1 rs2 : RegId) (s : State) : Result :=
  illegal (.feqS rd rs1 rs2) s

/-- FLT.S: not in this hardware, IllegalInstruction (R273, R100). -/
def execFltS (rd rs1 rs2 : RegId) (s : State) : Result :=
  illegal (.fltS rd rs1 rs2) s

/-- FLE.S: not in this hardware, IllegalInstruction (R273, R100). -/
def execFleS (rd rs1 rs2 : RegId) (s : State) : Result :=
  illegal (.fleS rd rs1 rs2) s

/-- FCLASS.S: not in this hardware, IllegalInstruction (R273, R100). -/
def execFclassS (rd rs1 : RegId) (s : State) : Result :=
  illegal (.fclassS rd rs1) s

/-- FCVT.S.W: not in this hardware, IllegalInstruction (R273, R100). -/
def execFcvtSW (rd rs1 : RegId) (rm : BitVec 3) (s : State) : Result :=
  illegal (.fcvtSW rd rs1 rm) s

/-- FCVT.S.WU: not in this hardware, IllegalInstruction (R273, R100). -/
def execFcvtSWu (rd rs1 : RegId) (rm : BitVec 3) (s : State) : Result :=
  illegal (.fcvtSWu rd rs1 rm) s

/-- FMV.W.X: not in this hardware, IllegalInstruction (R273, R100). -/
def execFmvWX (rd rs1 : RegId) (s : State) : Result :=
  illegal (.fmvWX rd rs1) s

/-- FCVT.L.S: not in this hardware, IllegalInstruction (R274, R100). -/
def execFcvtLS (rd rs1 : RegId) (rm : BitVec 3) (s : State) : Result :=
  illegal (.fcvtLS rd rs1 rm) s

/-- FCVT.LU.S: not in this hardware, IllegalInstruction (R274, R100). -/
def execFcvtLuS (rd rs1 : RegId) (rm : BitVec 3) (s : State) : Result :=
  illegal (.fcvtLuS rd rs1 rm) s

/-- FCVT.S.L: not in this hardware, IllegalInstruction (R274, R100). -/
def execFcvtSL (rd rs1 : RegId) (rm : BitVec 3) (s : State) : Result :=
  illegal (.fcvtSL rd rs1 rm) s

/-- FCVT.S.LU: not in this hardware, IllegalInstruction (R274, R100). -/
def execFcvtSLu (rd rs1 : RegId) (rm : BitVec 3) (s : State) : Result :=
  illegal (.fcvtSLu rd rs1 rm) s

/-- FLD: not in this hardware, IllegalInstruction (R275, R100). -/
def execFld (rd rs1 : RegId) (imm : BitVec 12) (s : State) : Result :=
  illegal (.fld rd rs1 imm) s

/-- FSD: not in this hardware, IllegalInstruction (R275, R100). -/
def execFsd (rs1 rs2 : RegId) (imm : BitVec 12) (s : State) : Result :=
  illegal (.fsd rs1 rs2 imm) s

/-- FMADD.D: not in this hardware, IllegalInstruction (R275, R100). -/
def execFmaddD (rd rs1 rs2 rs3 : RegId) (rm : BitVec 3) (s : State) : Result :=
  illegal (.fmaddD rd rs1 rs2 rs3 rm) s

/-- FMSUB.D: not in this hardware, IllegalInstruction (R275, R100). -/
def execFmsubD (rd rs1 rs2 rs3 : RegId) (rm : BitVec 3) (s : State) : Result :=
  illegal (.fmsubD rd rs1 rs2 rs3 rm) s

/-- FNMSUB.D: not in this hardware, IllegalInstruction (R275, R100). -/
def execFnmsubD (rd rs1 rs2 rs3 : RegId) (rm : BitVec 3) (s : State) : Result :=
  illegal (.fnmsubD rd rs1 rs2 rs3 rm) s

/-- FNMADD.D: not in this hardware, IllegalInstruction (R275, R100). -/
def execFnmaddD (rd rs1 rs2 rs3 : RegId) (rm : BitVec 3) (s : State) : Result :=
  illegal (.fnmaddD rd rs1 rs2 rs3 rm) s

/-- FADD.D: not in this hardware, IllegalInstruction (R275, R100). -/
def execFaddD (rd rs1 rs2 : RegId) (rm : BitVec 3) (s : State) : Result :=
  illegal (.faddD rd rs1 rs2 rm) s

/-- FSUB.D: not in this hardware, IllegalInstruction (R275, R100). -/
def execFsubD (rd rs1 rs2 : RegId) (rm : BitVec 3) (s : State) : Result :=
  illegal (.fsubD rd rs1 rs2 rm) s

/-- FMUL.D: not in this hardware, IllegalInstruction (R275, R100). -/
def execFmulD (rd rs1 rs2 : RegId) (rm : BitVec 3) (s : State) : Result :=
  illegal (.fmulD rd rs1 rs2 rm) s

/-- FDIV.D: not in this hardware, IllegalInstruction (R275, R100). -/
def execFdivD (rd rs1 rs2 : RegId) (rm : BitVec 3) (s : State) : Result :=
  illegal (.fdivD rd rs1 rs2 rm) s

/-- FSQRT.D: not in this hardware, IllegalInstruction (R275, R100). -/
def execFsqrtD (rd rs1 : RegId) (rm : BitVec 3) (s : State) : Result :=
  illegal (.fsqrtD rd rs1 rm) s

/-- FSGNJ.D: not in this hardware, IllegalInstruction (R275, R100). -/
def execFsgnjD (rd rs1 rs2 : RegId) (s : State) : Result :=
  illegal (.fsgnjD rd rs1 rs2) s

/-- FSGNJN.D: not in this hardware, IllegalInstruction (R275, R100). -/
def execFsgnjnD (rd rs1 rs2 : RegId) (s : State) : Result :=
  illegal (.fsgnjnD rd rs1 rs2) s

/-- FSGNJX.D: not in this hardware, IllegalInstruction (R275, R100). -/
def execFsgnjxD (rd rs1 rs2 : RegId) (s : State) : Result :=
  illegal (.fsgnjxD rd rs1 rs2) s

/-- FMIN.D: not in this hardware, IllegalInstruction (R275, R100). -/
def execFminD (rd rs1 rs2 : RegId) (s : State) : Result :=
  illegal (.fminD rd rs1 rs2) s

/-- FMAX.D: not in this hardware, IllegalInstruction (R275, R100). -/
def execFmaxD (rd rs1 rs2 : RegId) (s : State) : Result :=
  illegal (.fmaxD rd rs1 rs2) s

/-- FCVT.S.D: not in this hardware, IllegalInstruction (R275, R100). -/
def execFcvtSD (rd rs1 : RegId) (rm : BitVec 3) (s : State) : Result :=
  illegal (.fcvtSD rd rs1 rm) s

/-- FCVT.D.S: not in this hardware, IllegalInstruction (R275, R100). -/
def execFcvtDS (rd rs1 : RegId) (rm : BitVec 3) (s : State) : Result :=
  illegal (.fcvtDS rd rs1 rm) s

/-- FEQ.D: not in this hardware, IllegalInstruction (R275, R100). -/
def execFeqD (rd rs1 rs2 : RegId) (s : State) : Result :=
  illegal (.feqD rd rs1 rs2) s

/-- FLT.D: not in this hardware, IllegalInstruction (R275, R100). -/
def execFltD (rd rs1 rs2 : RegId) (s : State) : Result :=
  illegal (.fltD rd rs1 rs2) s

/-- FLE.D: not in this hardware, IllegalInstruction (R275, R100). -/
def execFleD (rd rs1 rs2 : RegId) (s : State) : Result :=
  illegal (.fleD rd rs1 rs2) s

/-- FCLASS.D: not in this hardware, IllegalInstruction (R275, R100). -/
def execFclassD (rd rs1 : RegId) (s : State) : Result :=
  illegal (.fclassD rd rs1) s

/-- FCVT.W.D: not in this hardware, IllegalInstruction (R275, R100). -/
def execFcvtWD (rd rs1 : RegId) (rm : BitVec 3) (s : State) : Result :=
  illegal (.fcvtWD rd rs1 rm) s

/-- FCVT.WU.D: not in this hardware, IllegalInstruction (R275, R100). -/
def execFcvtWuD (rd rs1 : RegId) (rm : BitVec 3) (s : State) : Result :=
  illegal (.fcvtWuD rd rs1 rm) s

/-- FCVT.D.W: not in this hardware, IllegalInstruction (R275, R100). -/
def execFcvtDW (rd rs1 : RegId) (rm : BitVec 3) (s : State) : Result :=
  illegal (.fcvtDW rd rs1 rm) s

/-- FCVT.D.WU: not in this hardware, IllegalInstruction (R275, R100). -/
def execFcvtDWu (rd rs1 : RegId) (rm : BitVec 3) (s : State) : Result :=
  illegal (.fcvtDWu rd rs1 rm) s

/-- FCVT.L.D: not in this hardware, IllegalInstruction (R276, R100). -/
def execFcvtLD (rd rs1 : RegId) (rm : BitVec 3) (s : State) : Result :=
  illegal (.fcvtLD rd rs1 rm) s

/-- FCVT.LU.D: not in this hardware, IllegalInstruction (R276, R100). -/
def execFcvtLuD (rd rs1 : RegId) (rm : BitVec 3) (s : State) : Result :=
  illegal (.fcvtLuD rd rs1 rm) s

/-- FMV.X.D: not in this hardware, IllegalInstruction (R276, R100). -/
def execFmvXD (rd rs1 : RegId) (s : State) : Result :=
  illegal (.fmvXD rd rs1) s

/-- FCVT.D.L: not in this hardware, IllegalInstruction (R276, R100). -/
def execFcvtDL (rd rs1 : RegId) (rm : BitVec 3) (s : State) : Result :=
  illegal (.fcvtDL rd rs1 rm) s

/-- FCVT.D.LU: not in this hardware, IllegalInstruction (R276, R100). -/
def execFcvtDLu (rd rs1 : RegId) (rm : BitVec 3) (s : State) : Result :=
  illegal (.fcvtDLu rd rs1 rm) s

/-- FMV.D.X: not in this hardware, IllegalInstruction (R276, R100). -/
def execFmvDX (rd rs1 : RegId) (s : State) : Result :=
  illegal (.fmvDX rd rs1) s

end Sys2Proof.Machine
end

