-- ==== Sys2Proof/Machine/Integer.lean ====
section
/-! DEFINITION. The integer computational instructions (40_integer_computational.md): each writes x[rd] and retires, and none raises
(R120, R143). -/

namespace Sys2Proof.Machine

/-- LUI (R130): `x[rd] <- inst[31:12] ++ 0x000`. -/
def execLui (rd : RegId) (imm : BitVec 20) (s : State) : Result :=
  retireWith rd (upperImm imm) s

/-- AUIPC (R131): `x[rd] <- pc + (inst[31:12] ++ 0x000)`. -/
def execAuipc (rd : RegId) (imm : BitVec 20) (s : State) : Result :=
  retireWith rd (s.pc + upperImm imm) s

/-- ADDI (R121), the canonical NOP among its words (R104, R142): `x[rd] <- x[rs1] + sext_32(imm)`. -/
def execAddi (rd rs1 : RegId) (imm : BitVec 12) (s : State) : Result :=
  retireWith rd (s.reg rs1 + sextImm imm) s

/-- SLTI (R122): the signed comparison with the sign-extended immediate. -/
def execSlti (rd rs1 : RegId) (imm : BitVec 12) (s : State) : Result :=
  retireWith rd (boolWord (lessSigned (s.reg rs1) (sextImm imm))) s

/-- SLTIU (R123): the unsigned comparison with the sign-extended immediate. -/
def execSltiu (rd rs1 : RegId) (imm : BitVec 12) (s : State) : Result :=
  retireWith rd (boolWord (lessUnsigned (s.reg rs1) (sextImm imm))) s

/-- XORI (R126). -/
def execXori (rd rs1 : RegId) (imm : BitVec 12) (s : State) : Result :=
  retireWith rd (s.reg rs1 ^^^ sextImm imm) s

/-- ORI (R125). -/
def execOri (rd rs1 : RegId) (imm : BitVec 12) (s : State) : Result :=
  retireWith rd (s.reg rs1 ||| sextImm imm) s

/-- ANDI (R124). -/
def execAndi (rd rs1 : RegId) (imm : BitVec 12) (s : State) : Result :=
  retireWith rd (s.reg rs1 &&& sextImm imm) s

/-- SLLI (R127). -/
def execSlli (rd rs1 : RegId) (shamt : BitVec 5) (s : State) : Result :=
  retireWith rd (shiftLeft (s.reg rs1) shamt) s

/-- SRLI (R128). -/
def execSrli (rd rs1 : RegId) (shamt : BitVec 5) (s : State) : Result :=
  retireWith rd (shiftRightLogical (s.reg rs1) shamt) s

/-- SRAI (R129). -/
def execSrai (rd rs1 : RegId) (shamt : BitVec 5) (s : State) : Result :=
  retireWith rd (shiftRightArith (s.reg rs1) shamt) s

/-- ADD (R132): overflow is ignored. -/
def execAdd (rd rs1 rs2 : RegId) (s : State) : Result :=
  retireWith rd (s.reg rs1 + s.reg rs2) s

/-- SUB (R133): rs2 is subtracted from rs1. -/
def execSub (rd rs1 rs2 : RegId) (s : State) : Result :=
  retireWith rd (s.reg rs1 - s.reg rs2) s

/-- SLL (R134): the lower 5 bits of x[rs2] count. -/
def execSll (rd rs1 rs2 : RegId) (s : State) : Result :=
  retireWith rd (shiftLeft (s.reg rs1) (shiftAmount (s.reg rs2))) s

/-- SLT (R135). -/
def execSlt (rd rs1 rs2 : RegId) (s : State) : Result :=
  retireWith rd (boolWord (lessSigned (s.reg rs1) (s.reg rs2))) s

/-- SLTU (R136). -/
def execSltu (rd rs1 rs2 : RegId) (s : State) : Result :=
  retireWith rd (boolWord (lessUnsigned (s.reg rs1) (s.reg rs2))) s

/-- XOR (R137). -/
def execXor (rd rs1 rs2 : RegId) (s : State) : Result :=
  retireWith rd (s.reg rs1 ^^^ s.reg rs2) s

/-- SRL (R138). -/
def execSrl (rd rs1 rs2 : RegId) (s : State) : Result :=
  retireWith rd (shiftRightLogical (s.reg rs1) (shiftAmount (s.reg rs2))) s

/-- SRA (R139). -/
def execSra (rd rs1 rs2 : RegId) (s : State) : Result :=
  retireWith rd (shiftRightArith (s.reg rs1) (shiftAmount (s.reg rs2))) s

/-- OR (R140). -/
def execOr (rd rs1 rs2 : RegId) (s : State) : Result :=
  retireWith rd (s.reg rs1 ||| s.reg rs2) s

/-- AND (R141). -/
def execAnd (rd rs1 rs2 : RegId) (s : State) : Result :=
  retireWith rd (s.reg rs1 &&& s.reg rs2) s

end Sys2Proof.Machine
end

