-- ==== Sys2Proof/Machine/LoadStore.lean ====
section
/-! DEFINITION. The loads and stores (42_load_store.md). No alignment is asked for (R56, R180, R313). -/

namespace Sys2Proof.Machine

/-- LB (R171). -/
def execLb (rd rs1 : RegId) (imm : BitVec 12) (s : State) : Result :=
  loadInto rd (effectiveAddr s rs1 imm) 1 ((s.mem.readValue (effectiveAddr s rs1 imm) 1).signExtend 32) s

/-- LH (R172). -/
def execLh (rd rs1 : RegId) (imm : BitVec 12) (s : State) : Result :=
  loadInto rd (effectiveAddr s rs1 imm) 2 ((s.mem.readValue (effectiveAddr s rs1 imm) 2).signExtend 32) s

/-- LW (R173). -/
def execLw (rd rs1 : RegId) (imm : BitVec 12) (s : State) : Result :=
  loadInto rd (effectiveAddr s rs1 imm) 4 ((s.mem.readValue (effectiveAddr s rs1 imm) 4).setWidth 32) s

/-- LBU (R174). -/
def execLbu (rd rs1 : RegId) (imm : BitVec 12) (s : State) : Result :=
  loadInto rd (effectiveAddr s rs1 imm) 1 ((s.mem.readValue (effectiveAddr s rs1 imm) 1).setWidth 32) s

/-- LHU (R175). -/
def execLhu (rd rs1 : RegId) (imm : BitVec 12) (s : State) : Result :=
  loadInto rd (effectiveAddr s rs1 imm) 2 ((s.mem.readValue (effectiveAddr s rs1 imm) 2).setWidth 32) s

/-- SB (R176): the low byte of x[rs2]. -/
def execSb (rs1 rs2 : RegId) (imm : BitVec 12) (s : State) : Result :=
  storeFrom (effectiveAddr s rs1 imm) 1 (s.reg rs2) s

/-- SH (R177): the low half of x[rs2]. -/
def execSh (rs1 rs2 : RegId) (imm : BitVec 12) (s : State) : Result :=
  storeFrom (effectiveAddr s rs1 imm) 2 (s.reg rs2) s

/-- SW (R178). -/
def execSw (rs1 rs2 : RegId) (imm : BitVec 12) (s : State) : Result :=
  storeFrom (effectiveAddr s rs1 imm) 4 (s.reg rs2) s

end Sys2Proof.Machine
end

