-- ==== Sys2Proof/Machine/MulDiv.lean ====
section
/-! DEFINITION. The M extension (46_muldiv.md): each writes x[rd] and retires; division by zero and overflow have the values of
Table 6.1 and nothing traps (R240, R249, R312). -/

namespace Sys2Proof.Machine

/-- MUL (R241). -/
def execMul (rd rs1 rs2 : RegId) (s : State) : Result :=
  retireWith rd (mulLow (s.reg rs1) (s.reg rs2)) s

/-- MULH (R242). -/
def execMulh (rd rs1 rs2 : RegId) (s : State) : Result :=
  retireWith rd (mulHighSigned (s.reg rs1) (s.reg rs2)) s

/-- MULHSU (R243): rs1 signed, rs2 unsigned. -/
def execMulhsu (rd rs1 rs2 : RegId) (s : State) : Result :=
  retireWith rd (mulHighSignedUnsigned (s.reg rs1) (s.reg rs2)) s

/-- MULHU (R244). -/
def execMulhu (rd rs1 rs2 : RegId) (s : State) : Result :=
  retireWith rd (mulHighUnsigned (s.reg rs1) (s.reg rs2)) s

/-- DIV (R245, R249). -/
def execDiv (rd rs1 rs2 : RegId) (s : State) : Result :=
  retireWith rd (divSigned (s.reg rs1) (s.reg rs2)) s

/-- DIVU (R246, R249). -/
def execDivu (rd rs1 rs2 : RegId) (s : State) : Result :=
  retireWith rd (divUnsigned (s.reg rs1) (s.reg rs2)) s

/-- REM (R247, R249). -/
def execRem (rd rs1 rs2 : RegId) (s : State) : Result :=
  retireWith rd (remSigned (s.reg rs1) (s.reg rs2)) s

/-- REMU (R248, R249). -/
def execRemu (rd rs1 rs2 : RegId) (s : State) : Result :=
  retireWith rd (remUnsigned (s.reg rs1) (s.reg rs2)) s

end Sys2Proof.Machine
end

