-- ==== Sys2Proof/Machine/Rv64.lean ====
section
/-! DEFINITION. The RV64I and RV64M rows the source lists (46_muldiv.md R252 to R256, 47_listed_only.md R270). Every word of these
rows raises IllegalInstruction on this hardware (R100), recording the word (R302). -/

namespace Sys2Proof.Machine

/-- LWU: not in this hardware, IllegalInstruction (R270, R100). -/
def execLwu (rd rs1 : RegId) (imm : BitVec 12) (s : State) : Result :=
  illegal (.lwu rd rs1 imm) s

/-- LD: not in this hardware, IllegalInstruction (R270, R100). -/
def execLd (rd rs1 : RegId) (imm : BitVec 12) (s : State) : Result :=
  illegal (.ld rd rs1 imm) s

/-- SD: not in this hardware, IllegalInstruction (R270, R100). -/
def execSd (rs1 rs2 : RegId) (imm : BitVec 12) (s : State) : Result :=
  illegal (.sd rs1 rs2 imm) s

/-- SLLI (RV64): not in this hardware, IllegalInstruction (R270, R100). -/
def execSlliRv64 (rd rs1 : RegId) (shamt : BitVec 6) (s : State) : Result :=
  illegal (.slliRv64 rd rs1 shamt) s

/-- SRLI (RV64): not in this hardware, IllegalInstruction (R270, R100). -/
def execSrliRv64 (rd rs1 : RegId) (shamt : BitVec 6) (s : State) : Result :=
  illegal (.srliRv64 rd rs1 shamt) s

/-- SRAI (RV64): not in this hardware, IllegalInstruction (R270, R100). -/
def execSraiRv64 (rd rs1 : RegId) (shamt : BitVec 6) (s : State) : Result :=
  illegal (.sraiRv64 rd rs1 shamt) s

/-- ADDIW: not in this hardware, IllegalInstruction (R270, R100). -/
def execAddiw (rd rs1 : RegId) (imm : BitVec 12) (s : State) : Result :=
  illegal (.addiw rd rs1 imm) s

/-- SLLIW: not in this hardware, IllegalInstruction (R270, R100). -/
def execSlliw (rd rs1 : RegId) (shamt : BitVec 5) (s : State) : Result :=
  illegal (.slliw rd rs1 shamt) s

/-- SRLIW: not in this hardware, IllegalInstruction (R270, R100). -/
def execSrliw (rd rs1 : RegId) (shamt : BitVec 5) (s : State) : Result :=
  illegal (.srliw rd rs1 shamt) s

/-- SRAIW: not in this hardware, IllegalInstruction (R270, R100). -/
def execSraiw (rd rs1 : RegId) (shamt : BitVec 5) (s : State) : Result :=
  illegal (.sraiw rd rs1 shamt) s

/-- ADDW: not in this hardware, IllegalInstruction (R270, R100). -/
def execAddw (rd rs1 rs2 : RegId) (s : State) : Result :=
  illegal (.addw rd rs1 rs2) s

/-- SUBW: not in this hardware, IllegalInstruction (R270, R100). -/
def execSubw (rd rs1 rs2 : RegId) (s : State) : Result :=
  illegal (.subw rd rs1 rs2) s

/-- SLLW: not in this hardware, IllegalInstruction (R270, R100). -/
def execSllw (rd rs1 rs2 : RegId) (s : State) : Result :=
  illegal (.sllw rd rs1 rs2) s

/-- SRLW: not in this hardware, IllegalInstruction (R270, R100). -/
def execSrlw (rd rs1 rs2 : RegId) (s : State) : Result :=
  illegal (.srlw rd rs1 rs2) s

/-- SRAW: not in this hardware, IllegalInstruction (R270, R100). -/
def execSraw (rd rs1 rs2 : RegId) (s : State) : Result :=
  illegal (.sraw rd rs1 rs2) s

/-- MULW: not in this hardware, IllegalInstruction (R252, R100). -/
def execMulw (rd rs1 rs2 : RegId) (s : State) : Result :=
  illegal (.mulw rd rs1 rs2) s

/-- DIVW: not in this hardware, IllegalInstruction (R253, R100). -/
def execDivw (rd rs1 rs2 : RegId) (s : State) : Result :=
  illegal (.divw rd rs1 rs2) s

/-- DIVUW: not in this hardware, IllegalInstruction (R254, R100). -/
def execDivuw (rd rs1 rs2 : RegId) (s : State) : Result :=
  illegal (.divuw rd rs1 rs2) s

/-- REMW: not in this hardware, IllegalInstruction (R255, R100). -/
def execRemw (rd rs1 rs2 : RegId) (s : State) : Result :=
  illegal (.remw rd rs1 rs2) s

/-- REMUW: not in this hardware, IllegalInstruction (R256, R100). -/
def execRemuw (rd rs1 rs2 : RegId) (s : State) : Result :=
  illegal (.remuw rd rs1 rs2) s

end Sys2Proof.Machine
end

