-- ==== Sys2Proof/Machine/Fetch.lean ====
section
/-! DEFINITION. The fetch of a step (R9 (1), R52, R63), and placing an instruction where it is fetched. -/

namespace Sys2Proof.Machine

/-- The fetch, and what follows it with the word: the alignment of the pc, the legality of the four bytes, then whether
they are I/O or Dirty, in this order (R9 (1), R52, R58, R63, R311; log 28), then the little-endian word (R52). -/
def fetchThen (s : State) (next : Word → Result) : Result :=
  if misaligned s.pc then raise .instructionAddressMisaligned s.pc s
  else if s.accessLegal .fetch s.pc 4 then
    if s.accessIO s.pc 4 then .refused (.ioAccess s.pc)
    else if s.accessDirty s.pc 4 then .refused (.dirtyFetch s.pc)
    else next (s.mem.readValue s.pc 4)
  else raise .instructionAccessFault s.pc s

/-- The one-byte range that makes an address plain and legal for fetch, its other permissions as they were. -/
def State.fetchableByte (s : State) (a : Nat) : Region :=
  { base := a, size := 1, kind := .plain, fetch := true, load := s.legal .load a, store := s.legal .store a }

/-- Whether the four bytes at the pc can be fetched, were they not Dirty. -/
def State.fetchOpen (s : State) : Bool := s.accessLegal .fetch s.pc 4 && !s.accessIO s.pc 4

/-- The environment places the instruction word `w` at the pc (R342 (b), (d)): its four bytes in memory, not Dirty, and
fetchable; where they were already fetchable the map is unchanged. -/
def State.placeWord (s : State) (w : Word) : State :=
  { s with
    mem := s.mem.writeValue s.pc 4 w
    dirty := s.dirty.filter (fun a => decide (a ∉ accessAddrs s.pc 4))
    regions := if s.fetchOpen then s.regions else (accessAddrs s.pc 4).map s.fetchableByte ++ s.regions }

end Sys2Proof.Machine
end

