-- ==== Sys2Proof/Machine/Step.lean ====
section
/-! DEFINITION. One step of the hart (R9), and placing one instruction for the next step to run. -/

namespace Sys2Proof.Machine

/-- Decode and execute a fetched word: IllegalInstruction with the word if it is no row (R9 (2), (3), R100). -/
def runWord (s : State) (w : Word) : Host.Outcome State Fault Refusal :=
  match decode w with
  | .ok i => exec i s
  | .error _ => raise .illegalInstruction w s

/-- One step (R9): fetch, decode, execute; the meaning called advances the pc and instret. -/
def step (s : State) : Host.Outcome State Fault Refusal :=
  fetchThen s (runWord s)

/-- The instruction whose low `nbits` bits are `w` placed where `step` fetches next (log 6). -/
def State.withFetchWord (s : State) (nbits w : Nat) : State :=
  s.placeWord (BitVec.ofNat 32 (w % 2 ^ nbits))

end Sys2Proof.Machine
end

