-- ==== Sys2Proof/Machine/OpcodeTable.lean ====
section
/-! DEFINITION. The opcode table as the spec prints it: the `match` and `mask` columns of tables R99-T and R270-T to
R276-T and the group a row belongs to. The decoder and the encoder do not read it; statements hold them against it. -/

namespace Sys2Proof.Machine

/-- The groups of the table's rows: by section file for the 55 in scope, by extension for the listed-only ones. -/
inductive Group where
  | integer
  | control
  | loadStore
  | fence
  | environment
  | csr
  | mulDiv
  | rv64i
  | rv64m
  | rv32a
  | rv64a
  | rv32f
  | rv64f
  | rv32d
  | rv64d
  deriving DecidableEq, Repr

/-- Whether a group's rows are listed only, not instructions of this hardware (R3, R278). -/
def Group.listedOnly : Group → Bool
  | .integer => false
  | .control => false
  | .loadStore => false
  | .fence => false
  | .environment => false
  | .csr => false
  | .mulDiv => false
  | .rv64i => true
  | .rv64m => true
  | .rv32a => true
  | .rv64a => true
  | .rv32f => true
  | .rv64f => true
  | .rv32d => true
  | .rv64d => true

/-- The group of an instruction. -/
def rowGroup : Instr → Group
  | .lui _ _ => .integer
  | .auipc _ _ => .integer
  | .jal _ _ => .control
  | .jalr _ _ _ => .control
  | .beq _ _ _ => .control
  | .bne _ _ _ => .control
  | .blt _ _ _ => .control
  | .bge _ _ _ => .control
  | .bltu _ _ _ => .control
  | .bgeu _ _ _ => .control
  | .lb _ _ _ => .loadStore
  | .lh _ _ _ => .loadStore
  | .lw _ _ _ => .loadStore
  | .lbu _ _ _ => .loadStore
  | .lhu _ _ _ => .loadStore
  | .sb _ _ _ => .loadStore
  | .sh _ _ _ => .loadStore
  | .sw _ _ _ => .loadStore
  | .addi _ _ _ => .integer
  | .slti _ _ _ => .integer
  | .sltiu _ _ _ => .integer
  | .xori _ _ _ => .integer
  | .ori _ _ _ => .integer
  | .andi _ _ _ => .integer
  | .slli _ _ _ => .integer
  | .srli _ _ _ => .integer
  | .srai _ _ _ => .integer
  | .add _ _ _ => .integer
  | .sub _ _ _ => .integer
  | .sll _ _ _ => .integer
  | .slt _ _ _ => .integer
  | .sltu _ _ _ => .integer
  | .xor _ _ _ => .integer
  | .srl _ _ _ => .integer
  | .sra _ _ _ => .integer
  | .or _ _ _ => .integer
  | .and _ _ _ => .integer
  | .fence _ _ => .fence
  | .fenceI => .fence
  | .ecall => .environment
  | .ebreak => .environment
  | .csrrw _ _ _ => .csr
  | .csrrs _ _ _ => .csr
  | .csrrc _ _ _ => .csr
  | .csrrwi _ _ _ => .csr
  | .csrrsi _ _ _ => .csr
  | .csrrci _ _ _ => .csr
  | .mul _ _ _ => .mulDiv
  | .mulh _ _ _ => .mulDiv
  | .mulhsu _ _ _ => .mulDiv
  | .mulhu _ _ _ => .mulDiv
  | .div _ _ _ => .mulDiv
  | .divu _ _ _ => .mulDiv
  | .rem _ _ _ => .mulDiv
  | .remu _ _ _ => .mulDiv
  | .lwu _ _ _ => .rv64i
  | .ld _ _ _ => .rv64i
  | .sd _ _ _ => .rv64i
  | .slliRv64 _ _ _ => .rv64i
  | .srliRv64 _ _ _ => .rv64i
  | .sraiRv64 _ _ _ => .rv64i
  | .addiw _ _ _ => .rv64i
  | .slliw _ _ _ => .rv64i
  | .srliw _ _ _ => .rv64i
  | .sraiw _ _ _ => .rv64i
  | .addw _ _ _ => .rv64i
  | .subw _ _ _ => .rv64i
  | .sllw _ _ _ => .rv64i
  | .srlw _ _ _ => .rv64i
  | .sraw _ _ _ => .rv64i
  | .mulw _ _ _ => .rv64m
  | .divw _ _ _ => .rv64m
  | .divuw _ _ _ => .rv64m
  | .remw _ _ _ => .rv64m
  | .remuw _ _ _ => .rv64m
  | .lrW _ _ _ _ => .rv32a
  | .scW _ _ _ _ _ => .rv32a
  | .amoswapW _ _ _ _ _ => .rv32a
  | .amoaddW _ _ _ _ _ => .rv32a
  | .amoxorW _ _ _ _ _ => .rv32a
  | .amoandW _ _ _ _ _ => .rv32a
  | .amoorW _ _ _ _ _ => .rv32a
  | .amominW _ _ _ _ _ => .rv32a
  | .amomaxW _ _ _ _ _ => .rv32a
  | .amominuW _ _ _ _ _ => .rv32a
  | .amomaxuW _ _ _ _ _ => .rv32a
  | .lrD _ _ _ _ => .rv64a
  | .scD _ _ _ _ _ => .rv64a
  | .amoswapD _ _ _ _ _ => .rv64a
  | .amoaddD _ _ _ _ _ => .rv64a
  | .amoxorD _ _ _ _ _ => .rv64a
  | .amoandD _ _ _ _ _ => .rv64a
  | .amoorD _ _ _ _ _ => .rv64a
  | .amominD _ _ _ _ _ => .rv64a
  | .amomaxD _ _ _ _ _ => .rv64a
  | .amominuD _ _ _ _ _ => .rv64a
  | .amomaxuD _ _ _ _ _ => .rv64a
  | .flw _ _ _ => .rv32f
  | .fsw _ _ _ => .rv32f
  | .fmaddS _ _ _ _ _ => .rv32f
  | .fmsubS _ _ _ _ _ => .rv32f
  | .fnmsubS _ _ _ _ _ => .rv32f
  | .fnmaddS _ _ _ _ _ => .rv32f
  | .faddS _ _ _ _ => .rv32f
  | .fsubS _ _ _ _ => .rv32f
  | .fmulS _ _ _ _ => .rv32f
  | .fdivS _ _ _ _ => .rv32f
  | .fsqrtS _ _ _ => .rv32f
  | .fsgnjS _ _ _ => .rv32f
  | .fsgnjnS _ _ _ => .rv32f
  | .fsgnjxS _ _ _ => .rv32f
  | .fminS _ _ _ => .rv32f
  | .fmaxS _ _ _ => .rv32f
  | .fcvtWS _ _ _ => .rv32f
  | .fcvtWuS _ _ _ => .rv32f
  | .fmvXW _ _ => .rv32f
  | .feqS _ _ _ => .rv32f
  | .fltS _ _ _ => .rv32f
  | .fleS _ _ _ => .rv32f
  | .fclassS _ _ => .rv32f
  | .fcvtSW _ _ _ => .rv32f
  | .fcvtSWu _ _ _ => .rv32f
  | .fmvWX _ _ => .rv32f
  | .fcvtLS _ _ _ => .rv64f
  | .fcvtLuS _ _ _ => .rv64f
  | .fcvtSL _ _ _ => .rv64f
  | .fcvtSLu _ _ _ => .rv64f
  | .fld _ _ _ => .rv32d
  | .fsd _ _ _ => .rv32d
  | .fmaddD _ _ _ _ _ => .rv32d
  | .fmsubD _ _ _ _ _ => .rv32d
  | .fnmsubD _ _ _ _ _ => .rv32d
  | .fnmaddD _ _ _ _ _ => .rv32d
  | .faddD _ _ _ _ => .rv32d
  | .fsubD _ _ _ _ => .rv32d
  | .fmulD _ _ _ _ => .rv32d
  | .fdivD _ _ _ _ => .rv32d
  | .fsqrtD _ _ _ => .rv32d
  | .fsgnjD _ _ _ => .rv32d
  | .fsgnjnD _ _ _ => .rv32d
  | .fsgnjxD _ _ _ => .rv32d
  | .fminD _ _ _ => .rv32d
  | .fmaxD _ _ _ => .rv32d
  | .fcvtSD _ _ _ => .rv32d
  | .fcvtDS _ _ _ => .rv32d
  | .feqD _ _ _ => .rv32d
  | .fltD _ _ _ => .rv32d
  | .fleD _ _ _ => .rv32d
  | .fclassD _ _ => .rv32d
  | .fcvtWD _ _ _ => .rv32d
  | .fcvtWuD _ _ _ => .rv32d
  | .fcvtDW _ _ _ => .rv32d
  | .fcvtDWu _ _ _ => .rv32d
  | .fcvtLD _ _ _ => .rv64d
  | .fcvtLuD _ _ _ => .rv64d
  | .fmvXD _ _ => .rv64d
  | .fcvtDL _ _ _ => .rv64d
  | .fcvtDLu _ _ _ => .rv64d
  | .fmvDX _ _ => .rv64d

/-- The `mask` column: which bits of the word select the row (R99). -/
def rowMask : Instr → Word
  | .lui _ _ => 0x0000007F#32
  | .auipc _ _ => 0x0000007F#32
  | .jal _ _ => 0x0000007F#32
  | .jalr _ _ _ => 0x0000707F#32
  | .beq _ _ _ => 0x0000707F#32
  | .bne _ _ _ => 0x0000707F#32
  | .blt _ _ _ => 0x0000707F#32
  | .bge _ _ _ => 0x0000707F#32
  | .bltu _ _ _ => 0x0000707F#32
  | .bgeu _ _ _ => 0x0000707F#32
  | .lb _ _ _ => 0x0000707F#32
  | .lh _ _ _ => 0x0000707F#32
  | .lw _ _ _ => 0x0000707F#32
  | .lbu _ _ _ => 0x0000707F#32
  | .lhu _ _ _ => 0x0000707F#32
  | .sb _ _ _ => 0x0000707F#32
  | .sh _ _ _ => 0x0000707F#32
  | .sw _ _ _ => 0x0000707F#32
  | .addi _ _ _ => 0x0000707F#32
  | .slti _ _ _ => 0x0000707F#32
  | .sltiu _ _ _ => 0x0000707F#32
  | .xori _ _ _ => 0x0000707F#32
  | .ori _ _ _ => 0x0000707F#32
  | .andi _ _ _ => 0x0000707F#32
  | .slli _ _ _ => 0xFE00707F#32
  | .srli _ _ _ => 0xFE00707F#32
  | .srai _ _ _ => 0xFE00707F#32
  | .add _ _ _ => 0xFE00707F#32
  | .sub _ _ _ => 0xFE00707F#32
  | .sll _ _ _ => 0xFE00707F#32
  | .slt _ _ _ => 0xFE00707F#32
  | .sltu _ _ _ => 0xFE00707F#32
  | .xor _ _ _ => 0xFE00707F#32
  | .srl _ _ _ => 0xFE00707F#32
  | .sra _ _ _ => 0xFE00707F#32
  | .or _ _ _ => 0xFE00707F#32
  | .and _ _ _ => 0xFE00707F#32
  | .fence _ _ => 0xF00FFFFF#32
  | .fenceI => 0xFFFFFFFF#32
  | .ecall => 0xFFFFFFFF#32
  | .ebreak => 0xFFFFFFFF#32
  | .csrrw _ _ _ => 0x0000707F#32
  | .csrrs _ _ _ => 0x0000707F#32
  | .csrrc _ _ _ => 0x0000707F#32
  | .csrrwi _ _ _ => 0x0000707F#32
  | .csrrsi _ _ _ => 0x0000707F#32
  | .csrrci _ _ _ => 0x0000707F#32
  | .mul _ _ _ => 0xFE00707F#32
  | .mulh _ _ _ => 0xFE00707F#32
  | .mulhsu _ _ _ => 0xFE00707F#32
  | .mulhu _ _ _ => 0xFE00707F#32
  | .div _ _ _ => 0xFE00707F#32
  | .divu _ _ _ => 0xFE00707F#32
  | .rem _ _ _ => 0xFE00707F#32
  | .remu _ _ _ => 0xFE00707F#32
  | .lwu _ _ _ => 0x0000707F#32
  | .ld _ _ _ => 0x0000707F#32
  | .sd _ _ _ => 0x0000707F#32
  | .slliRv64 _ _ _ => 0xFC00707F#32
  | .srliRv64 _ _ _ => 0xFC00707F#32
  | .sraiRv64 _ _ _ => 0xFC00707F#32
  | .addiw _ _ _ => 0x0000707F#32
  | .slliw _ _ _ => 0xFE00707F#32
  | .srliw _ _ _ => 0xFE00707F#32
  | .sraiw _ _ _ => 0xFE00707F#32
  | .addw _ _ _ => 0xFE00707F#32
  | .subw _ _ _ => 0xFE00707F#32
  | .sllw _ _ _ => 0xFE00707F#32
  | .srlw _ _ _ => 0xFE00707F#32
  | .sraw _ _ _ => 0xFE00707F#32
  | .mulw _ _ _ => 0xFE00707F#32
  | .divw _ _ _ => 0xFE00707F#32
  | .divuw _ _ _ => 0xFE00707F#32
  | .remw _ _ _ => 0xFE00707F#32
  | .remuw _ _ _ => 0xFE00707F#32
  | .lrW _ _ _ _ => 0xF9F0707F#32
  | .scW _ _ _ _ _ => 0xF800707F#32
  | .amoswapW _ _ _ _ _ => 0xF800707F#32
  | .amoaddW _ _ _ _ _ => 0xF800707F#32
  | .amoxorW _ _ _ _ _ => 0xF800707F#32
  | .amoandW _ _ _ _ _ => 0xF800707F#32
  | .amoorW _ _ _ _ _ => 0xF800707F#32
  | .amominW _ _ _ _ _ => 0xF800707F#32
  | .amomaxW _ _ _ _ _ => 0xF800707F#32
  | .amominuW _ _ _ _ _ => 0xF800707F#32
  | .amomaxuW _ _ _ _ _ => 0xF800707F#32
  | .lrD _ _ _ _ => 0xF9F0707F#32
  | .scD _ _ _ _ _ => 0xF800707F#32
  | .amoswapD _ _ _ _ _ => 0xF800707F#32
  | .amoaddD _ _ _ _ _ => 0xF800707F#32
  | .amoxorD _ _ _ _ _ => 0xF800707F#32
  | .amoandD _ _ _ _ _ => 0xF800707F#32
  | .amoorD _ _ _ _ _ => 0xF800707F#32
  | .amominD _ _ _ _ _ => 0xF800707F#32
  | .amomaxD _ _ _ _ _ => 0xF800707F#32
  | .amominuD _ _ _ _ _ => 0xF800707F#32
  | .amomaxuD _ _ _ _ _ => 0xF800707F#32
  | .flw _ _ _ => 0x0000707F#32
  | .fsw _ _ _ => 0x0000707F#32
  | .fmaddS _ _ _ _ _ => 0x0600007F#32
  | .fmsubS _ _ _ _ _ => 0x0600007F#32
  | .fnmsubS _ _ _ _ _ => 0x0600007F#32
  | .fnmaddS _ _ _ _ _ => 0x0600007F#32
  | .faddS _ _ _ _ => 0xFE00007F#32
  | .fsubS _ _ _ _ => 0xFE00007F#32
  | .fmulS _ _ _ _ => 0xFE00007F#32
  | .fdivS _ _ _ _ => 0xFE00007F#32
  | .fsqrtS _ _ _ => 0xFFF0007F#32
  | .fsgnjS _ _ _ => 0xFE00707F#32
  | .fsgnjnS _ _ _ => 0xFE00707F#32
  | .fsgnjxS _ _ _ => 0xFE00707F#32
  | .fminS _ _ _ => 0xFE00707F#32
  | .fmaxS _ _ _ => 0xFE00707F#32
  | .fcvtWS _ _ _ => 0xFFF0007F#32
  | .fcvtWuS _ _ _ => 0xFFF0007F#32
  | .fmvXW _ _ => 0xFFF0707F#32
  | .feqS _ _ _ => 0xFE00707F#32
  | .fltS _ _ _ => 0xFE00707F#32
  | .fleS _ _ _ => 0xFE00707F#32
  | .fclassS _ _ => 0xFFF0707F#32
  | .fcvtSW _ _ _ => 0xFFF0007F#32
  | .fcvtSWu _ _ _ => 0xFFF0007F#32
  | .fmvWX _ _ => 0xFFF0707F#32
  | .fcvtLS _ _ _ => 0xFFF0007F#32
  | .fcvtLuS _ _ _ => 0xFFF0007F#32
  | .fcvtSL _ _ _ => 0xFFF0007F#32
  | .fcvtSLu _ _ _ => 0xFFF0007F#32
  | .fld _ _ _ => 0x0000707F#32
  | .fsd _ _ _ => 0x0000707F#32
  | .fmaddD _ _ _ _ _ => 0x0600007F#32
  | .fmsubD _ _ _ _ _ => 0x0600007F#32
  | .fnmsubD _ _ _ _ _ => 0x0600007F#32
  | .fnmaddD _ _ _ _ _ => 0x0600007F#32
  | .faddD _ _ _ _ => 0xFE00007F#32
  | .fsubD _ _ _ _ => 0xFE00007F#32
  | .fmulD _ _ _ _ => 0xFE00007F#32
  | .fdivD _ _ _ _ => 0xFE00007F#32
  | .fsqrtD _ _ _ => 0xFFF0007F#32
  | .fsgnjD _ _ _ => 0xFE00707F#32
  | .fsgnjnD _ _ _ => 0xFE00707F#32
  | .fsgnjxD _ _ _ => 0xFE00707F#32
  | .fminD _ _ _ => 0xFE00707F#32
  | .fmaxD _ _ _ => 0xFE00707F#32
  | .fcvtSD _ _ _ => 0xFFF0007F#32
  | .fcvtDS _ _ _ => 0xFFF0007F#32
  | .feqD _ _ _ => 0xFE00707F#32
  | .fltD _ _ _ => 0xFE00707F#32
  | .fleD _ _ _ => 0xFE00707F#32
  | .fclassD _ _ => 0xFFF0707F#32
  | .fcvtWD _ _ _ => 0xFFF0007F#32
  | .fcvtWuD _ _ _ => 0xFFF0007F#32
  | .fcvtDW _ _ _ => 0xFFF0007F#32
  | .fcvtDWu _ _ _ => 0xFFF0007F#32
  | .fcvtLD _ _ _ => 0xFFF0007F#32
  | .fcvtLuD _ _ _ => 0xFFF0007F#32
  | .fmvXD _ _ => 0xFFF0707F#32
  | .fcvtDL _ _ _ => 0xFFF0007F#32
  | .fcvtDLu _ _ _ => 0xFFF0007F#32
  | .fmvDX _ _ => 0xFFF0707F#32

/-- The `match` column: the values of those bits (R99). -/
def rowMatch : Instr → Word
  | .lui _ _ => 0x00000037#32
  | .auipc _ _ => 0x00000017#32
  | .jal _ _ => 0x0000006F#32
  | .jalr _ _ _ => 0x00000067#32
  | .beq _ _ _ => 0x00000063#32
  | .bne _ _ _ => 0x00001063#32
  | .blt _ _ _ => 0x00004063#32
  | .bge _ _ _ => 0x00005063#32
  | .bltu _ _ _ => 0x00006063#32
  | .bgeu _ _ _ => 0x00007063#32
  | .lb _ _ _ => 0x00000003#32
  | .lh _ _ _ => 0x00001003#32
  | .lw _ _ _ => 0x00002003#32
  | .lbu _ _ _ => 0x00004003#32
  | .lhu _ _ _ => 0x00005003#32
  | .sb _ _ _ => 0x00000023#32
  | .sh _ _ _ => 0x00001023#32
  | .sw _ _ _ => 0x00002023#32
  | .addi _ _ _ => 0x00000013#32
  | .slti _ _ _ => 0x00002013#32
  | .sltiu _ _ _ => 0x00003013#32
  | .xori _ _ _ => 0x00004013#32
  | .ori _ _ _ => 0x00006013#32
  | .andi _ _ _ => 0x00007013#32
  | .slli _ _ _ => 0x00001013#32
  | .srli _ _ _ => 0x00005013#32
  | .srai _ _ _ => 0x40005013#32
  | .add _ _ _ => 0x00000033#32
  | .sub _ _ _ => 0x40000033#32
  | .sll _ _ _ => 0x00001033#32
  | .slt _ _ _ => 0x00002033#32
  | .sltu _ _ _ => 0x00003033#32
  | .xor _ _ _ => 0x00004033#32
  | .srl _ _ _ => 0x00005033#32
  | .sra _ _ _ => 0x40005033#32
  | .or _ _ _ => 0x00006033#32
  | .and _ _ _ => 0x00007033#32
  | .fence _ _ => 0x0000000F#32
  | .fenceI => 0x0000100F#32
  | .ecall => 0x00000073#32
  | .ebreak => 0x00100073#32
  | .csrrw _ _ _ => 0x00001073#32
  | .csrrs _ _ _ => 0x00002073#32
  | .csrrc _ _ _ => 0x00003073#32
  | .csrrwi _ _ _ => 0x00005073#32
  | .csrrsi _ _ _ => 0x00006073#32
  | .csrrci _ _ _ => 0x00007073#32
  | .mul _ _ _ => 0x02000033#32
  | .mulh _ _ _ => 0x02001033#32
  | .mulhsu _ _ _ => 0x02002033#32
  | .mulhu _ _ _ => 0x02003033#32
  | .div _ _ _ => 0x02004033#32
  | .divu _ _ _ => 0x02005033#32
  | .rem _ _ _ => 0x02006033#32
  | .remu _ _ _ => 0x02007033#32
  | .lwu _ _ _ => 0x00006003#32
  | .ld _ _ _ => 0x00003003#32
  | .sd _ _ _ => 0x00003023#32
  | .slliRv64 _ _ _ => 0x00001013#32
  | .srliRv64 _ _ _ => 0x00005013#32
  | .sraiRv64 _ _ _ => 0x40005013#32
  | .addiw _ _ _ => 0x0000001B#32
  | .slliw _ _ _ => 0x0000101B#32
  | .srliw _ _ _ => 0x0000501B#32
  | .sraiw _ _ _ => 0x4000501B#32
  | .addw _ _ _ => 0x0000003B#32
  | .subw _ _ _ => 0x4000003B#32
  | .sllw _ _ _ => 0x0000103B#32
  | .srlw _ _ _ => 0x0000503B#32
  | .sraw _ _ _ => 0x4000503B#32
  | .mulw _ _ _ => 0x0200003B#32
  | .divw _ _ _ => 0x0200403B#32
  | .divuw _ _ _ => 0x0200503B#32
  | .remw _ _ _ => 0x0200603B#32
  | .remuw _ _ _ => 0x0200703B#32
  | .lrW _ _ _ _ => 0x1000202F#32
  | .scW _ _ _ _ _ => 0x1800202F#32
  | .amoswapW _ _ _ _ _ => 0x0800202F#32
  | .amoaddW _ _ _ _ _ => 0x0000202F#32
  | .amoxorW _ _ _ _ _ => 0x2000202F#32
  | .amoandW _ _ _ _ _ => 0x6000202F#32
  | .amoorW _ _ _ _ _ => 0x4000202F#32
  | .amominW _ _ _ _ _ => 0x8000202F#32
  | .amomaxW _ _ _ _ _ => 0xA000202F#32
  | .amominuW _ _ _ _ _ => 0xC000202F#32
  | .amomaxuW _ _ _ _ _ => 0xE000202F#32
  | .lrD _ _ _ _ => 0x1000302F#32
  | .scD _ _ _ _ _ => 0x1800302F#32
  | .amoswapD _ _ _ _ _ => 0x0800302F#32
  | .amoaddD _ _ _ _ _ => 0x0000302F#32
  | .amoxorD _ _ _ _ _ => 0x2000302F#32
  | .amoandD _ _ _ _ _ => 0x6000302F#32
  | .amoorD _ _ _ _ _ => 0x4000302F#32
  | .amominD _ _ _ _ _ => 0x8000302F#32
  | .amomaxD _ _ _ _ _ => 0xA000302F#32
  | .amominuD _ _ _ _ _ => 0xC000302F#32
  | .amomaxuD _ _ _ _ _ => 0xE000302F#32
  | .flw _ _ _ => 0x00002007#32
  | .fsw _ _ _ => 0x00002027#32
  | .fmaddS _ _ _ _ _ => 0x00000043#32
  | .fmsubS _ _ _ _ _ => 0x00000047#32
  | .fnmsubS _ _ _ _ _ => 0x0000004B#32
  | .fnmaddS _ _ _ _ _ => 0x0000004F#32
  | .faddS _ _ _ _ => 0x00000053#32
  | .fsubS _ _ _ _ => 0x08000053#32
  | .fmulS _ _ _ _ => 0x10000053#32
  | .fdivS _ _ _ _ => 0x18000053#32
  | .fsqrtS _ _ _ => 0x58000053#32
  | .fsgnjS _ _ _ => 0x20000053#32
  | .fsgnjnS _ _ _ => 0x20001053#32
  | .fsgnjxS _ _ _ => 0x20002053#32
  | .fminS _ _ _ => 0x28000053#32
  | .fmaxS _ _ _ => 0x28001053#32
  | .fcvtWS _ _ _ => 0xC0000053#32
  | .fcvtWuS _ _ _ => 0xC0100053#32
  | .fmvXW _ _ => 0xE0000053#32
  | .feqS _ _ _ => 0xA0002053#32
  | .fltS _ _ _ => 0xA0001053#32
  | .fleS _ _ _ => 0xA0000053#32
  | .fclassS _ _ => 0xE0001053#32
  | .fcvtSW _ _ _ => 0xD0000053#32
  | .fcvtSWu _ _ _ => 0xD0100053#32
  | .fmvWX _ _ => 0xF0000053#32
  | .fcvtLS _ _ _ => 0xC0200053#32
  | .fcvtLuS _ _ _ => 0xC0300053#32
  | .fcvtSL _ _ _ => 0xD0200053#32
  | .fcvtSLu _ _ _ => 0xD0300053#32
  | .fld _ _ _ => 0x00003007#32
  | .fsd _ _ _ => 0x00003027#32
  | .fmaddD _ _ _ _ _ => 0x02000043#32
  | .fmsubD _ _ _ _ _ => 0x02000047#32
  | .fnmsubD _ _ _ _ _ => 0x0200004B#32
  | .fnmaddD _ _ _ _ _ => 0x0200004F#32
  | .faddD _ _ _ _ => 0x02000053#32
  | .fsubD _ _ _ _ => 0x0A000053#32
  | .fmulD _ _ _ _ => 0x12000053#32
  | .fdivD _ _ _ _ => 0x1A000053#32
  | .fsqrtD _ _ _ => 0x5A000053#32
  | .fsgnjD _ _ _ => 0x22000053#32
  | .fsgnjnD _ _ _ => 0x22001053#32
  | .fsgnjxD _ _ _ => 0x22002053#32
  | .fminD _ _ _ => 0x2A000053#32
  | .fmaxD _ _ _ => 0x2A001053#32
  | .fcvtSD _ _ _ => 0x40100053#32
  | .fcvtDS _ _ _ => 0x42000053#32
  | .feqD _ _ _ => 0xA2002053#32
  | .fltD _ _ _ => 0xA2001053#32
  | .fleD _ _ _ => 0xA2000053#32
  | .fclassD _ _ => 0xE2001053#32
  | .fcvtWD _ _ _ => 0xC2000053#32
  | .fcvtWuD _ _ _ => 0xC2100053#32
  | .fcvtDW _ _ _ => 0xD2000053#32
  | .fcvtDWu _ _ _ => 0xD2100053#32
  | .fcvtLD _ _ _ => 0xC2200053#32
  | .fcvtLuD _ _ _ => 0xC2300053#32
  | .fmvXD _ _ => 0xE2000053#32
  | .fcvtDL _ _ _ => 0xD2200053#32
  | .fcvtDLu _ _ _ => 0xD2300053#32
  | .fmvDX _ _ => 0xF2000053#32

end Sys2Proof.Machine
end

