-- ==== Sys2Proof/Machine/Run.lean ====
section
/-! DEFINITION. Runs (R341): steps from a start state until one raises or is refused, the trap record handed over with
the state before the step (R309, R310), and runs that an environment resumes (D24). -/

namespace Sys2Proof.Machine

/-- How far a run has come. -/
inductive RunEnd where
  /-- Every step so far gave a next state. -/
  | running (s : State)
  /-- A step raised: the record, and the state handed to the environment, that before the step (R309). -/
  | trapped (record : Fault) (s : State)
  /-- A step has no meaning: why, and the state before it. -/
  | refused (why : Refusal) (s : State)
  deriving DecidableEq, Repr

/-- At most `k` steps of the run from `s` (R341). -/
def run : Nat → State → RunEnd
  | 0, s => .running s
  | k + 1, s =>
    match step s with
    | .next t => run k t
    | .fault record => .trapped record s
    | .refused why => .refused why s

/-- At most `k` steps and traps of a run whose environment may resume after a trap: the OPEN parameter `EnvResume` (R230,
D24), which the spec does not supply; none ends the run. -/
def runWith (envResume : Fault → State → Option State) : Nat → State → RunEnd
  | 0, s => .running s
  | k + 1, s =>
    match step s with
    | .next t => runWith envResume k t
    | .fault record =>
      match envResume record s with
      | some t => runWith envResume k t
      | none => .trapped record s
    | .refused why => .refused why s

end Sys2Proof.Machine
end

