-- ==== Sys2Proof/Safety.lean ====
section
/-! DEFINITION. The terms claims are stated in: the invariant of every state a run reaches, the start states of table
R34-T, the environment's boot duties (R342), what a safe run is, and what an instruction that completes may change. -/

namespace Sys2Proof.Machine

/-- What every step keeps: memory and Dirty in canonical form, the pc a multiple of 4 (R24). -/
abbrev State.Inv (s : State) : Prop :=
  s.mem.wf ∧ s.dirty.wf ∧ misaligned s.pc = false

/-- The start states of table R34-T: the pc a multiple of 4, Dirty empty, memory in canonical form; registers, counters,
memory's contents and the address map are whatever the environment has (R34, D22). -/
abbrev State.Start (s : State) : Prop :=
  s.mem.wf ∧ s.dirty = [] ∧ misaligned s.pc = false

/-- The environment's duty before the first step that concerns the fetch (R342 (a)): the pc a multiple of 4 and its four
bytes legal for fetch; and none of them I/O (R58). -/
abbrev State.BootReady (s : State) : Prop :=
  misaligned s.pc = false ∧ s.accessLegal .fetch s.pc 4 = true ∧ s.accessIO s.pc 4 = false

/-- "ECALL and EBREAK are the normal ways for a program to end its run" (R341). -/
def Fault.normalEnd : Fault → Bool
  | .environmentCall _ _ => true
  | .breakpoint _ _ => true
  | .instructionAddressMisaligned _ _ => false
  | .instructionAccessFault _ _ => false
  | .illegalInstruction _ _ => false
  | .loadAccessFault _ _ => false
  | .storeAccessFault _ _ => false

/-- A step that is no error: it goes on, or ends the run in a normal way. -/
def stepSafe (s : State) : Bool :=
  match step s with
  | .next _ => true
  | .fault record => record.normalEnd
  | .refused _ => false

/-- A run of `k` steps is safe if it still goes on, or ended in a normal way (R341). -/
def runSafe (k : Nat) (s : State) : Bool :=
  match run k s with
  | .running _ => true
  | .trapped record _ => record.normalEnd
  | .refused _ _ => false

/-! ## Trap records -/

/-- The pc of a trap record (R309). -/
def Fault.pc : Fault → Word
  | .instructionAddressMisaligned p _ => p
  | .instructionAccessFault p _ => p
  | .illegalInstruction p _ => p
  | .breakpoint p _ => p
  | .loadAccessFault p _ => p
  | .storeAccessFault p _ => p
  | .environmentCall p _ => p

/-! ## Accesses, byte by byte -/

/-- Byte `i` of an access at `a` (R50). -/
def byteAddr (a : Word) (i : Nat) : Nat := (a + BitVec.ofNat 32 i).toNat

/-- A multiple of 4: `t[1:0] = 0` (R24, R159). -/
abbrev Aligned (t : Word) : Prop := t.extractLsb' 0 2 = 0#2

/-- Every byte of an access is legal (R53, R54). -/
abbrev State.BytesLegal (s : State) (kind : AccessKind) (a : Word) (n : Nat) : Prop :=
  ∀ i < n, s.legal kind (byteAddr a i) = true

/-- No byte of an access is I/O (R58). -/
abbrev State.BytesPlain (s : State) (a : Word) (n : Nat) : Prop := ∀ i < n, s.isIO (byteAddr a i) = false

/-- No byte of a fetch is Dirty (R63). -/
abbrev State.BytesClean (s : State) (a : Word) (n : Nat) : Prop := ∀ i < n, byteAddr a i ∉ s.dirty

/-- The byte `i` of an access at `a`. -/
def State.byteAt (s : State) (a : Word) (i : Nat) : Byte := s.mem.read (byteAddr a i)

/-- `inst = byte(pc+3) ++ byte(pc+2) ++ byte(pc+1) ++ byte(pc)` (R52). -/
def State.fetchedWord (s : State) : Word := s.byteAt s.pc 3 ++ s.byteAt s.pc 2 ++ s.byteAt s.pc 1 ++ s.byteAt s.pc 0

/-- Nothing keeps the fetch from reaching decode: aligned, legal, plain, not Dirty (R9 (1), R52, R58, R63). -/
abbrev State.FetchReady (s : State) : Prop :=
  Aligned s.pc ∧ s.BytesLegal .fetch s.pc 4 ∧ s.BytesPlain s.pc 4 ∧ s.BytesClean s.pc 4

/-! ## Frames: what a completed instruction changes, and that it changes nothing else -/

/-- `t` is `s` with `v` in x[rd] (nothing, if rd is x0), the pc at `target`, and one more instruction retired. -/
structure WritesReg (s t : State) (rd : RegId) (v target : Word) : Prop where
  value   : rd ≠ 0#5 → t.reg rd = v
  zero    : t.reg 0#5 = 0#32
  others  : ∀ r, r ≠ rd → t.reg r = s.reg r
  pc      : t.pc = target
  instret : t.instret = s.instret + 1#64
  cycle   : t.cycle = s.cycle
  time    : t.time = s.time
  memory  : ∀ a, t.mem.read a = s.mem.read a
  dirty   : t.dirty = s.dirty
  regions : t.regions = s.regions
  draws   : t.draws = s.draws

/-- `t` is `s` with the pc at `target` and one more instruction retired: no register, no byte of memory changes. -/
structure OnlyAdvances (s t : State) (target : Word) : Prop where
  regs    : ∀ r, t.reg r = s.reg r
  pc      : t.pc = target
  instret : t.instret = s.instret + 1#64
  cycle   : t.cycle = s.cycle
  time    : t.time = s.time
  memory  : ∀ a, t.mem.read a = s.mem.read a
  dirty   : t.dirty = s.dirty
  regions : t.regions = s.regions
  draws   : t.draws = s.draws

/-- `t` is `s` with the low `n` bytes of `v` at `ea` and up, byte `i` being `v[8i+7:8i]`, their addresses added to Dirty,
the pc at `target` and one more instruction retired; every other byte, and every register, as before. -/
structure WritesBytes (s t : State) (ea : Word) (n : Nat) (v target : Word) : Prop where
  stored  : ∀ i < n, t.mem.read (byteAddr ea i) = v.extractLsb' (8 * i) 8
  others  : ∀ a, (∀ i < n, a ≠ byteAddr ea i) → t.mem.read a = s.mem.read a
  dirty   : ∀ a, a ∈ t.dirty ↔ a ∈ s.dirty ∨ ∃ i < n, a = byteAddr ea i
  regs    : ∀ r, t.reg r = s.reg r
  pc      : t.pc = target
  instret : t.instret = s.instret + 1#64
  cycle   : t.cycle = s.cycle
  time    : t.time = s.time
  regions : t.regions = s.regions
  draws   : t.draws = s.draws

/-- `t` is `s` after a read of bits `lo + 31` to `lo` of cycle into x[rd]: some value of cycle not below the one read
before, which nothing else constrains (R27, D23); one more draw, the pc advanced, one more instruction retired. -/
structure ReadsCycle (s t : State) (rd : RegId) (lo : Nat) : Prop where
  value   : rd ≠ 0#5 → t.reg rd = t.cycle.extractLsb' lo 32
  rising  : s.cycle.toNat ≤ t.cycle.toNat
  zero    : t.reg 0#5 = 0#32
  others  : ∀ r, r ≠ rd → t.reg r = s.reg r
  pc      : t.pc = s.pc + 4#32
  instret : t.instret = s.instret + 1#64
  time    : t.time = s.time
  memory  : ∀ a, t.mem.read a = s.mem.read a
  dirty   : t.dirty = s.dirty
  regions : t.regions = s.regions
  draws   : t.draws = s.draws + 1

/-- As `ReadsCycle`, for time (R28, D23). -/
structure ReadsTime (s t : State) (rd : RegId) (lo : Nat) : Prop where
  value   : rd ≠ 0#5 → t.reg rd = t.time.extractLsb' lo 32
  rising  : s.time.toNat ≤ t.time.toNat
  zero    : t.reg 0#5 = 0#32
  others  : ∀ r, r ≠ rd → t.reg r = s.reg r
  pc      : t.pc = s.pc + 4#32
  instret : t.instret = s.instret + 1#64
  cycle   : t.cycle = s.cycle
  memory  : ∀ a, t.mem.read a = s.mem.read a
  dirty   : t.dirty = s.dirty
  regions : t.regions = s.regions
  draws   : t.draws = s.draws + 1

/-- The instruction completes with `v` in x[rd] and the pc advanced by 4, and changes nothing else (R9, R120). -/
def Yields (i : Instr) (s : State) (rd : RegId) (v : Word) : Prop :=
  ∃ t, exec i s = .next t ∧ WritesReg s t rd v (s.pc + 4#32)

/-- A conditional branch to `target` on condition `c` (R153, R159): taken, it goes to an aligned target and raises at one
that is not; not taken, it advances, whatever the target. -/
def Branches (i : Instr) (s : State) (c : Prop) (target : Word) : Prop :=
  (c → Aligned target → ∃ t, exec i s = .next t ∧ OnlyAdvances s t target) ∧
  (c → ¬ Aligned target → exec i s = .fault (.instructionAddressMisaligned s.pc target)) ∧
  (¬ c → ∃ t, exec i s = .next t ∧ OnlyAdvances s t (s.pc + 4#32))

/-- A load of `n` bytes at `ea` giving `v` (R170): it completes where every byte is legal and none I/O, and raises where
some byte is not legal. -/
def Loads (i : Instr) (s : State) (rd : RegId) (ea : Word) (n : Nat) (v : Word) : Prop :=
  (s.BytesLegal .load ea n → s.BytesPlain ea n → Yields i s rd v) ∧
  (¬ s.BytesLegal .load ea n → exec i s = .fault (.loadAccessFault s.pc ea))

/-- A store of the low `n` bytes of `v` at `ea` (R170): it completes where every byte is legal and none I/O, and raises
where some byte is not legal. -/
def Stores (i : Instr) (s : State) (ea : Word) (n : Nat) (v : Word) : Prop :=
  (s.BytesLegal .store ea n → s.BytesPlain ea n →
    ∃ t, exec i s = .next t ∧ WritesBytes s t ea n v (s.pc + 4#32)) ∧
  (¬ s.BytesLegal .store ea n → exec i s = .fault (.storeAccessFault s.pc ea))

/-! ## Which instructions do what -/

/-- The base, offset and byte count of the five loads (R171 to R175). -/
def loadAccess : Instr → Option (RegId × BitVec 12 × Nat)
  | .lb _ rs1 imm => some (rs1, imm, 1)
  | .lh _ rs1 imm => some (rs1, imm, 2)
  | .lw _ rs1 imm => some (rs1, imm, 4)
  | .lbu _ rs1 imm => some (rs1, imm, 1)
  | .lhu _ rs1 imm => some (rs1, imm, 2)
  | _ => none

/-- The base, offset and byte count of the three stores (R176 to R178). -/
def storeAccess : Instr → Option (RegId × BitVec 12 × Nat)
  | .sb rs1 _ imm => some (rs1, imm, 1)
  | .sh rs1 _ imm => some (rs1, imm, 2)
  | .sw rs1 _ imm => some (rs1, imm, 4)
  | _ => none

/-- The target of a transfer that is made: JAL, JALR, and the branches whose condition holds (R151 to R158). -/
def takenTarget (s : State) : Instr → Option Word
  | .jal _ imm => some (s.pc + imm.signExtend 32)
  | .jalr _ rs1 imm => some ((s.reg rs1 + imm.signExtend 32) &&& 0xFFFFFFFE#32)
  | .beq rs1 rs2 imm => if s.reg rs1 = s.reg rs2 then some (s.pc + imm.signExtend 32) else none
  | .bne rs1 rs2 imm => if s.reg rs1 ≠ s.reg rs2 then some (s.pc + imm.signExtend 32) else none
  | .blt rs1 rs2 imm => if (s.reg rs1).toInt < (s.reg rs2).toInt then some (s.pc + imm.signExtend 32) else none
  | .bge rs1 rs2 imm => if (s.reg rs2).toInt ≤ (s.reg rs1).toInt then some (s.pc + imm.signExtend 32) else none
  | .bltu rs1 rs2 imm => if (s.reg rs1).toNat < (s.reg rs2).toNat then some (s.pc + imm.signExtend 32) else none
  | .bgeu rs1 rs2 imm => if (s.reg rs2).toNat ≤ (s.reg rs1).toNat then some (s.pc + imm.signExtend 32) else none
  | _ => none

/-- The six CSR numbers that exist (R200, D15). -/
def counterCsrs : List CsrId := [0xC00#12, 0xC01#12, 0xC02#12, 0xC80#12, 0xC81#12, 0xC82#12]

/-- A word matches a row of table R99-T, the 55 instructions of this hardware: `inst & mask = match`. -/
def matchesTable (w : Word) : Prop :=
  ∃ i, (rowGroup i).listedOnly = false ∧ w &&& rowMask i = rowMatch i

end Sys2Proof.Machine
end

