-- ==== Sys2Proof/Certificates/Slice0/Obligations.lean ====
section
/-! DEFINITION. The statements, for the provers: each is a Prop and nothing here is proved. OBLIGATIONS.json lists them with the
rules they formalise. -/

open Sys2Proof Sys2Proof.Machine

/-- O1. A step runs the instruction that the four bytes at the pc decode to (R9, R52, R310). -/
def Obligations.StepRunsDecodedInstruction : Prop :=
  ∀ (s : State) (i : Instr), s.FetchReady → decode s.fetchedWord = .ok i → step s = exec i s ∧ i.wf = true

/-- O2. Decoding the word of a well-formed instruction gives the instruction back (R83, R84, R85, R86, R87, R88, R94,
R95, R96, R97, R99, R277). -/
def Obligations.DecodeOfEncodeIsIdentity : Prop :=
  ∀ i : Instr, i.wf = true → decode (encode i) = .ok i

/-- O3. A word that decodes is the encoded word of a well-formed instruction: no bit of it is dropped (R82, R83, R84,
R85, R86, R87, R88, R96, R97, R99, R102). -/
def Obligations.EncodeOfDecodedIsTheWord : Prop :=
  ∀ (w : Word) (i : Instr), decode w = .ok i → i.wf = true ∧ encode i = w

/-- O4. A word decodes to an instruction of this hardware exactly when it matches its row (mask and match) of the table,
and at most one row matches (R99, R270). -/
def Obligations.DecodeFollowsOpcodeTable : Prop :=
  ∀ w : Word,
    (∀ i, decode w = .ok i → w &&& rowMask i = rowMatch i) ∧
    (∀ j, (rowGroup j).listedOnly = false → w &&& rowMask j = rowMatch j →
      ∃ i, decode w = .ok i ∧ (rowGroup i).listedOnly = false ∧ rowMask i = rowMask j ∧ rowMatch i = rowMatch j) ∧
    (∀ j k, (rowGroup j).listedOnly = false → (rowGroup k).listedOnly = false →
      w &&& rowMask j = rowMatch j → w &&& rowMask k = rowMatch k → rowMask j = rowMask k ∧ rowMatch j = rowMatch k)

/-- O5. Words the spec prints decode to the instructions it prints them for (a sanity check) (R121, R129, R152, R153,
R178, R190, R202, R231, R247). -/
def Obligations.WordsOfTheSpecDecode : Prop :=
  decode 0xFFF30293#32 = .ok (.addi 5#5 6#5 0xFFF#12) ∧
  decode 0x40435293#32 = .ok (.srai 5#5 6#5 4#5) ∧
  decode 0xFFC280E7#32 = .ok (.jalr 1#5 5#5 0xFFC#12) ∧
  decode 0x00628863#32 = .ok (.beq 5#5 6#5 16#13) ∧
  decode 0x00732223#32 = .ok (.sw 6#5 7#5 4#12) ∧
  decode 0x0FF0000F#32 = .ok (.fence 0xF#4 0xF#4) ∧
  decode 0xC02022F3#32 = .ok (.csrrs 5#5 0xC02#12 0#5) ∧
  decode 0x00100073#32 = .ok .ebreak ∧
  decode 0x027362B3#32 = .ok (.rem 5#5 6#5 7#5)

/-- O6. Every bit of the I, S, B, U and J immediates comes from the bit of the word the tables name (R89, R90, R91, R92,
R93). -/
def Obligations.ImmediatesAreAssembled : Prop :=
  ∀ (w : Word) (k : Nat), k < 32 →
    (sextImm (Field.iImm w)).getLsbD k = (if k < 11 then w.getLsbD (k + 20) else w.getLsbD 31) ∧
    (sextImm (Field.sImm w)).getLsbD k =
      (if k < 5 then w.getLsbD (k + 7) else if k < 11 then w.getLsbD (k + 20) else w.getLsbD 31) ∧
    ((Field.bImm w).signExtend 32).getLsbD k =
      (if k = 0 then false else if k < 5 then w.getLsbD (k + 7) else if k < 11 then w.getLsbD (k + 20)
        else if k = 11 then w.getLsbD 7 else w.getLsbD 31) ∧
    (upperImm (Field.uImm w)).getLsbD k = (if k < 12 then false else w.getLsbD k) ∧
    ((Field.jImm w).signExtend 32).getLsbD k =
      (if k = 0 then false else if k < 11 then w.getLsbD (k + 20) else if k = 11 then w.getLsbD 20
        else if k < 20 then w.getLsbD k else w.getLsbD 31)

/-- O7. The words that are no instruction of this hardware are exactly those of the list (a) to (k) (R100, R102). -/
def Obligations.UnlistedWordsAreExactlyTheList : Prop :=
  ∀ w : Word,
    (∃ i, decode w = .ok i ∧ (rowGroup i).listedOnly = false) ↔
    ¬ (w.extractLsb' 0 2 ≠ 0b11#2 ∨ w.extractLsb' 2 3 = 0b111#3 ∨
      Field.opcode w ∈ [0b0000111#7, 0b0100111#7, 0b0101111#7, 0b0011011#7, 0b0111011#7, 0b1000011#7, 0b1000111#7,
        0b1001011#7, 0b1001111#7, 0b1010011#7, 0b0001011#7, 0b0101011#7, 0b1011011#7, 0b1111011#7, 0b1010111#7,
        0b1101011#7, 0b1110111#7] ∨
      (Field.opcode w = 0b0000011#7 ∧ Field.funct3 w ∈ [0b011#3, 0b110#3, 0b111#3]) ∨
      (Field.opcode w = 0b0100011#7 ∧ Field.funct3 w ∈ [0b011#3, 0b100#3, 0b101#3, 0b110#3, 0b111#3]) ∨
      (Field.opcode w = 0b1100011#7 ∧ Field.funct3 w ∈ [0b010#3, 0b011#3]) ∨
      (Field.opcode w = 0b1100111#7 ∧ Field.funct3 w ≠ 0b000#3) ∨
      (Field.opcode w = 0b0001111#7 ∧
        (Field.funct3 w ∈ [0b010#3, 0b011#3, 0b100#3, 0b101#3, 0b110#3, 0b111#3] ∨
          (Field.funct3 w = 0b000#3 ∧ (w.extractLsb' 28 4 ≠ 0#4 ∨ Field.rs1 w ≠ 0#5 ∨ Field.rd w ≠ 0#5)) ∨
          (Field.funct3 w = 0b001#3 ∧ (w.extractLsb' 20 12 ≠ 0#12 ∨ Field.rs1 w ≠ 0#5 ∨ Field.rd w ≠ 0#5)))) ∨
      (Field.opcode w = 0b0010011#7 ∧
        ((Field.funct3 w = 0b001#3 ∧ Field.funct7 w ≠ 0b0000000#7) ∨
          (Field.funct3 w = 0b101#3 ∧ Field.funct7 w ≠ 0b0000000#7 ∧ Field.funct7 w ≠ 0b0100000#7))) ∨
      (Field.opcode w = 0b0110011#7 ∧
        (Field.funct7 w ∉ [0b0000000#7, 0b0100000#7, 0b0000001#7] ∨
          (Field.funct7 w = 0b0100000#7 ∧ Field.funct3 w ≠ 0b000#3 ∧ Field.funct3 w ≠ 0b101#3))) ∨
      (Field.opcode w = 0b1110011#7 ∧
        (Field.funct3 w = 0b100#3 ∨ (Field.funct3 w = 0b000#3 ∧ w ≠ 0x00000073#32 ∧ w ≠ 0x00100073#32))))

/-- O8. ADDI, SLTI, SLTIU: encoding, result, and that nothing else changes (R121, R122, R123). -/
def Obligations.AddAndCompareImmediate : Prop :=
  ∀ (rd rs1 : RegId) (imm : BitVec 12) (s : State),
    decode (imm ++ rs1 ++ 0b000#3 ++ rd ++ 0b0010011#7) = .ok (.addi rd rs1 imm) ∧
    Yields (.addi rd rs1 imm) s rd (BitVec.ofInt 32 ((s.reg rs1).toInt + imm.toInt)) ∧
    decode (imm ++ rs1 ++ 0b010#3 ++ rd ++ 0b0010011#7) = .ok (.slti rd rs1 imm) ∧
    Yields (.slti rd rs1 imm) s rd (if (s.reg rs1).toInt < imm.toInt then 1#32 else 0#32) ∧
    decode (imm ++ rs1 ++ 0b011#3 ++ rd ++ 0b0010011#7) = .ok (.sltiu rd rs1 imm) ∧
    Yields (.sltiu rd rs1 imm) s rd (if (s.reg rs1).toNat < (imm.signExtend 32).toNat then 1#32 else 0#32)

/-- O9. ANDI, ORI, XORI: encoding, result, and that nothing else changes (R124, R125, R126). -/
def Obligations.LogicImmediate : Prop :=
  ∀ (rd rs1 : RegId) (imm : BitVec 12) (s : State),
    decode (imm ++ rs1 ++ 0b111#3 ++ rd ++ 0b0010011#7) = .ok (.andi rd rs1 imm) ∧
    Yields (.andi rd rs1 imm) s rd (s.reg rs1 &&& imm.signExtend 32) ∧
    decode (imm ++ rs1 ++ 0b110#3 ++ rd ++ 0b0010011#7) = .ok (.ori rd rs1 imm) ∧
    Yields (.ori rd rs1 imm) s rd (s.reg rs1 ||| imm.signExtend 32) ∧
    decode (imm ++ rs1 ++ 0b100#3 ++ rd ++ 0b0010011#7) = .ok (.xori rd rs1 imm) ∧
    Yields (.xori rd rs1 imm) s rd (s.reg rs1 ^^^ imm.signExtend 32)

/-- O10. SLLI, SRLI, SRAI: encoding, result, and that nothing else changes (R127, R128, R129). -/
def Obligations.ShiftImmediate : Prop :=
  ∀ (rd rs1 : RegId) (shamt : BitVec 5) (s : State),
    decode (0b0000000#7 ++ shamt ++ rs1 ++ 0b001#3 ++ rd ++ 0b0010011#7) = .ok (.slli rd rs1 shamt) ∧
    Yields (.slli rd rs1 shamt) s rd (BitVec.ofNat 32 ((s.reg rs1).toNat * 2 ^ shamt.toNat)) ∧
    decode (0b0000000#7 ++ shamt ++ rs1 ++ 0b101#3 ++ rd ++ 0b0010011#7) = .ok (.srli rd rs1 shamt) ∧
    Yields (.srli rd rs1 shamt) s rd (BitVec.ofNat 32 ((s.reg rs1).toNat / 2 ^ shamt.toNat)) ∧
    decode (0b0100000#7 ++ shamt ++ rs1 ++ 0b101#3 ++ rd ++ 0b0010011#7) = .ok (.srai rd rs1 shamt) ∧
    Yields (.srai rd rs1 shamt) s rd (BitVec.ofInt 32 ((s.reg rs1).toInt / 2 ^ shamt.toNat)) ∧
    (∀ f7 : BitVec 7, s.FetchReady →
      (f7 ≠ 0b0000000#7 → s.fetchedWord = f7 ++ shamt ++ rs1 ++ 0b001#3 ++ rd ++ 0b0010011#7 →
        step s = .fault (.illegalInstruction s.pc s.fetchedWord)) ∧
      (f7 ≠ 0b0000000#7 → f7 ≠ 0b0100000#7 → s.fetchedWord = f7 ++ shamt ++ rs1 ++ 0b101#3 ++ rd ++ 0b0010011#7 →
        step s = .fault (.illegalInstruction s.pc s.fetchedWord)))

/-- O11. LUI and AUIPC: encoding, result, and that nothing else changes (R130, R131). -/
def Obligations.UpperImmediate : Prop :=
  ∀ (rd : RegId) (imm : BitVec 20) (s : State),
    decode (imm ++ rd ++ 0b0110111#7) = .ok (.lui rd imm) ∧
    Yields (.lui rd imm) s rd (imm ++ 0#12) ∧
    decode (imm ++ rd ++ 0b0010111#7) = .ok (.auipc rd imm) ∧
    Yields (.auipc rd imm) s rd (BitVec.ofNat 32 (s.pc.toNat + imm.toNat * 4096))

/-- O12. ADD, SUB, SLT, SLTU: encoding, result, and that nothing else changes (R132, R133, R135, R136). -/
def Obligations.AddSubtractCompare : Prop :=
  ∀ (rd rs1 rs2 : RegId) (s : State),
    decode (0b0000000#7 ++ rs2 ++ rs1 ++ 0b000#3 ++ rd ++ 0b0110011#7) = .ok (.add rd rs1 rs2) ∧
    Yields (.add rd rs1 rs2) s rd (BitVec.ofInt 32 ((s.reg rs1).toInt + (s.reg rs2).toInt)) ∧
    decode (0b0100000#7 ++ rs2 ++ rs1 ++ 0b000#3 ++ rd ++ 0b0110011#7) = .ok (.sub rd rs1 rs2) ∧
    Yields (.sub rd rs1 rs2) s rd (BitVec.ofInt 32 ((s.reg rs1).toInt - (s.reg rs2).toInt)) ∧
    decode (0b0000000#7 ++ rs2 ++ rs1 ++ 0b010#3 ++ rd ++ 0b0110011#7) = .ok (.slt rd rs1 rs2) ∧
    Yields (.slt rd rs1 rs2) s rd (if (s.reg rs1).toInt < (s.reg rs2).toInt then 1#32 else 0#32) ∧
    decode (0b0000000#7 ++ rs2 ++ rs1 ++ 0b011#3 ++ rd ++ 0b0110011#7) = .ok (.sltu rd rs1 rs2) ∧
    Yields (.sltu rd rs1 rs2) s rd (if (s.reg rs1).toNat < (s.reg rs2).toNat then 1#32 else 0#32)

/-- O13. XOR, OR, AND: encoding, result, and that nothing else changes (R137, R140, R141). -/
def Obligations.LogicRegister : Prop :=
  ∀ (rd rs1 rs2 : RegId) (s : State),
    decode (0b0000000#7 ++ rs2 ++ rs1 ++ 0b100#3 ++ rd ++ 0b0110011#7) = .ok (.xor rd rs1 rs2) ∧
    Yields (.xor rd rs1 rs2) s rd (s.reg rs1 ^^^ s.reg rs2) ∧
    decode (0b0000000#7 ++ rs2 ++ rs1 ++ 0b110#3 ++ rd ++ 0b0110011#7) = .ok (.or rd rs1 rs2) ∧
    Yields (.or rd rs1 rs2) s rd (s.reg rs1 ||| s.reg rs2) ∧
    decode (0b0000000#7 ++ rs2 ++ rs1 ++ 0b111#3 ++ rd ++ 0b0110011#7) = .ok (.and rd rs1 rs2) ∧
    Yields (.and rd rs1 rs2) s rd (s.reg rs1 &&& s.reg rs2)

/-- O14. SLL, SRL, SRA: encoding, result (the low 5 bits of x[rs2] count), and that nothing else changes (R134, R138,
R139). -/
def Obligations.ShiftRegister : Prop :=
  ∀ (rd rs1 rs2 : RegId) (s : State),
    decode (0b0000000#7 ++ rs2 ++ rs1 ++ 0b001#3 ++ rd ++ 0b0110011#7) = .ok (.sll rd rs1 rs2) ∧
    Yields (.sll rd rs1 rs2) s rd (BitVec.ofNat 32 ((s.reg rs1).toNat * 2 ^ ((s.reg rs2).toNat % 32))) ∧
    decode (0b0000000#7 ++ rs2 ++ rs1 ++ 0b101#3 ++ rd ++ 0b0110011#7) = .ok (.srl rd rs1 rs2) ∧
    Yields (.srl rd rs1 rs2) s rd (BitVec.ofNat 32 ((s.reg rs1).toNat / 2 ^ ((s.reg rs2).toNat % 32))) ∧
    decode (0b0100000#7 ++ rs2 ++ rs1 ++ 0b101#3 ++ rd ++ 0b0110011#7) = .ok (.sra rd rs1 rs2) ∧
    Yields (.sra rd rs1 rs2) s rd (BitVec.ofInt 32 ((s.reg rs1).toInt / 2 ^ ((s.reg rs2).toNat % 32)))

/-- O15. 0x00000013 is ADDI x0, x0, 0, advancing only pc and instret, as do integer and M words with rd = x0 (that a NOP
counts in instret: R142, C12, DEDUCED log 27) (R104, R142, R29). -/
def Obligations.CanonicalNopOnlyAdvances : Prop :=
  decode 0x00000013#32 = .ok (.addi 0#5 0#5 0#12) ∧ encode (.addi 0#5 0#5 0#12) = 0x00000013#32 ∧
  (∀ s : State, ∃ t, exec (.addi 0#5 0#5 0#12) s = .next t ∧ OnlyAdvances s t (s.pc + 4#32)) ∧
  (∀ (i : Instr) (s : State), rowGroup i = .integer ∨ rowGroup i = .mulDiv → Field.rd (encode i) = 0#5 →
    ∃ t, exec i s = .next t ∧ OnlyAdvances s t (s.pc + 4#32))

/-- O16. MUL, MULH, MULHSU, MULHU: encoding, result, frame (that rs1 is the signed operand of MULHSU is PRESUMED by the
spec, G12, log 18) (R241, R242, R243, R244, R240). -/
def Obligations.Multiply : Prop :=
  ∀ (rd rs1 rs2 : RegId) (s : State),
    decode (0b0000001#7 ++ rs2 ++ rs1 ++ 0b000#3 ++ rd ++ 0b0110011#7) = .ok (.mul rd rs1 rs2) ∧
    Yields (.mul rd rs1 rs2) s rd (BitVec.ofNat 32 ((s.reg rs1).toNat * (s.reg rs2).toNat)) ∧
    decode (0b0000001#7 ++ rs2 ++ rs1 ++ 0b001#3 ++ rd ++ 0b0110011#7) = .ok (.mulh rd rs1 rs2) ∧
    Yields (.mulh rd rs1 rs2) s rd (BitVec.ofInt 32 ((s.reg rs1).toInt * (s.reg rs2).toInt / 2 ^ 32)) ∧
    decode (0b0000001#7 ++ rs2 ++ rs1 ++ 0b010#3 ++ rd ++ 0b0110011#7) = .ok (.mulhsu rd rs1 rs2) ∧
    Yields (.mulhsu rd rs1 rs2) s rd (BitVec.ofInt 32 ((s.reg rs1).toInt * ((s.reg rs2).toNat : Int) / 2 ^ 32)) ∧
    decode (0b0000001#7 ++ rs2 ++ rs1 ++ 0b011#3 ++ rd ++ 0b0110011#7) = .ok (.mulhu rd rs1 rs2) ∧
    Yields (.mulhu rd rs1 rs2) s rd (BitVec.ofNat 32 ((s.reg rs1).toNat * (s.reg rs2).toNat / 2 ^ 32))

/-- O17. DIV, DIVU, REM, REMU: encoding, result with Table 6.1, frame (rounding toward zero is PRESUMED by the spec, G11,
log 17) (R240, R245, R246, R247, R248, R249). -/
def Obligations.Divide : Prop :=
  ∀ (rd rs1 rs2 : RegId) (s : State),
    decode (0b0000001#7 ++ rs2 ++ rs1 ++ 0b100#3 ++ rd ++ 0b0110011#7) = .ok (.div rd rs1 rs2) ∧
    Yields (.div rd rs1 rs2) s rd (if s.reg rs2 = 0#32 then 0xFFFFFFFF#32
      else if s.reg rs1 = 0x80000000#32 ∧ s.reg rs2 = 0xFFFFFFFF#32 then 0x80000000#32
      else BitVec.ofInt 32 ((s.reg rs1).toInt.tdiv (s.reg rs2).toInt)) ∧
    decode (0b0000001#7 ++ rs2 ++ rs1 ++ 0b101#3 ++ rd ++ 0b0110011#7) = .ok (.divu rd rs1 rs2) ∧
    Yields (.divu rd rs1 rs2) s rd (if s.reg rs2 = 0#32 then 0xFFFFFFFF#32 else BitVec.ofNat 32 ((s.reg rs1).toNat / (s.reg rs2).toNat)) ∧
    decode (0b0000001#7 ++ rs2 ++ rs1 ++ 0b110#3 ++ rd ++ 0b0110011#7) = .ok (.rem rd rs1 rs2) ∧
    Yields (.rem rd rs1 rs2) s rd (if s.reg rs2 = 0#32 then s.reg rs1
      else if s.reg rs1 = 0x80000000#32 ∧ s.reg rs2 = 0xFFFFFFFF#32 then 0#32
      else BitVec.ofInt 32 ((s.reg rs1).toInt.tmod (s.reg rs2).toInt)) ∧
    decode (0b0000001#7 ++ rs2 ++ rs1 ++ 0b111#3 ++ rd ++ 0b0110011#7) = .ok (.remu rd rs1 rs2) ∧
    Yields (.remu rd rs1 rs2) s rd (if s.reg rs2 = 0#32 then s.reg rs1 else BitVec.ofNat 32 ((s.reg rs1).toNat % (s.reg rs2).toNat))

/-- O18. The two halves of a product make the exact 64-bit product, for each signedness; MULHSU is not commutative (R250,
R241, R242, R243, R244). -/
def Obligations.ProductHalvesMakeTheProduct : Prop :=
  (∀ a b : Word,
    (mulHighUnsigned a b ++ mulLow a b).toNat = a.toNat * b.toNat ∧
    (mulHighSigned a b ++ mulLow a b).toInt = a.toInt * b.toInt ∧
    (mulHighSignedUnsigned a b ++ mulLow a b).toInt = a.toInt * (b.toNat : Int) ∧
    mulLow a b = mulLow b a ∧ mulHighSigned a b = mulHighSigned b a ∧ mulHighUnsigned a b = mulHighUnsigned b a) ∧
  (∃ a b : Word, mulHighSignedUnsigned a b ≠ mulHighSignedUnsigned b a)

/-- O19. Quotient times divisor plus remainder is the dividend, and the remainder is bounded (rounding is PRESUMED by the
spec, G11, log 17) (R250, R245, R246, R247, R248). -/
def Obligations.QuotientAndRemainderLaws : Prop :=
  ∀ a b : Word,
    divUnsigned a b * b + remUnsigned a b = a ∧ divSigned a b * b + remSigned a b = a ∧
    (b ≠ 0#32 → (divUnsigned a b).toNat * b.toNat + (remUnsigned a b).toNat = a.toNat ∧ (remUnsigned a b).toNat < b.toNat) ∧
    (b ≠ 0#32 → ¬ (a = 0x80000000#32 ∧ b = 0xFFFFFFFF#32) →
      (divSigned a b).toInt * b.toInt + (remSigned a b).toInt = a.toInt ∧
      (remSigned a b).toInt.natAbs < b.toInt.natAbs ∧
      ((remSigned a b).toInt = 0 ∨ ((remSigned a b).toInt < 0 ↔ a.toInt < 0)))

/-- O20. JAL and JALR: encoding, target, link, frame, and the exception at a target that is no multiple of 4 (R151,
R152). -/
def Obligations.JumpAndLink : Prop :=
  ∀ (rd rs1 : RegId) (off : BitVec 21) (imm : BitVec 12) (s : State) (target : Word),
    (off.getLsbD 0 = false →
      decode (off.extractLsb' 20 1 ++ off.extractLsb' 1 10 ++ off.extractLsb' 11 1 ++ off.extractLsb' 12 8 ++ rd ++
        0b1101111#7) = .ok (.jal rd off)) ∧
    (target = BitVec.ofInt 32 (s.pc.toInt + off.toInt) →
      (Aligned target → ∃ t, exec (.jal rd off) s = .next t ∧ WritesReg s t rd (s.pc + 4#32) target) ∧
      (¬ Aligned target → exec (.jal rd off) s = .fault (.instructionAddressMisaligned s.pc target))) ∧
    decode (imm ++ rs1 ++ 0b000#3 ++ rd ++ 0b1100111#7) = .ok (.jalr rd rs1 imm) ∧
    (target = BitVec.ofInt 32 ((s.reg rs1).toInt + imm.toInt) &&& 0xFFFFFFFE#32 →
      (Aligned target → ∃ t, exec (.jalr rd rs1 imm) s = .next t ∧ WritesReg s t rd (s.pc + 4#32) target) ∧
      (¬ Aligned target → exec (.jalr rd rs1 imm) s = .fault (.instructionAddressMisaligned s.pc target)))

/-- O21. The six branches: encoding, condition, target, frame (which funct3 is which branch is PRESUMED by the spec, G6,
log 16) (R153, R154, R155, R156, R157, R158, R159). -/
def Obligations.ConditionalBranches : Prop :=
  ∀ (rs1 rs2 : RegId) (off : BitVec 13) (s : State),
    (off.getLsbD 0 = false → decode (off.extractLsb' 12 1 ++ off.extractLsb' 5 6 ++ rs2 ++ rs1 ++ 0b000#3 ++
      off.extractLsb' 1 4 ++ off.extractLsb' 11 1 ++ 0b1100011#7) = .ok (.beq rs1 rs2 off)) ∧
    Branches (.beq rs1 rs2 off) s (s.reg rs1 = s.reg rs2) (BitVec.ofInt 32 (s.pc.toInt + off.toInt)) ∧
    (off.getLsbD 0 = false → decode (off.extractLsb' 12 1 ++ off.extractLsb' 5 6 ++ rs2 ++ rs1 ++ 0b001#3 ++
      off.extractLsb' 1 4 ++ off.extractLsb' 11 1 ++ 0b1100011#7) = .ok (.bne rs1 rs2 off)) ∧
    Branches (.bne rs1 rs2 off) s (s.reg rs1 ≠ s.reg rs2) (BitVec.ofInt 32 (s.pc.toInt + off.toInt)) ∧
    (off.getLsbD 0 = false → decode (off.extractLsb' 12 1 ++ off.extractLsb' 5 6 ++ rs2 ++ rs1 ++ 0b100#3 ++
      off.extractLsb' 1 4 ++ off.extractLsb' 11 1 ++ 0b1100011#7) = .ok (.blt rs1 rs2 off)) ∧
    Branches (.blt rs1 rs2 off) s ((s.reg rs1).toInt < (s.reg rs2).toInt) (BitVec.ofInt 32 (s.pc.toInt + off.toInt)) ∧
    (off.getLsbD 0 = false → decode (off.extractLsb' 12 1 ++ off.extractLsb' 5 6 ++ rs2 ++ rs1 ++ 0b101#3 ++
      off.extractLsb' 1 4 ++ off.extractLsb' 11 1 ++ 0b1100011#7) = .ok (.bge rs1 rs2 off)) ∧
    Branches (.bge rs1 rs2 off) s ((s.reg rs1).toInt ≥ (s.reg rs2).toInt) (BitVec.ofInt 32 (s.pc.toInt + off.toInt)) ∧
    (off.getLsbD 0 = false → decode (off.extractLsb' 12 1 ++ off.extractLsb' 5 6 ++ rs2 ++ rs1 ++ 0b110#3 ++
      off.extractLsb' 1 4 ++ off.extractLsb' 11 1 ++ 0b1100011#7) = .ok (.bltu rs1 rs2 off)) ∧
    Branches (.bltu rs1 rs2 off) s ((s.reg rs1).toNat < (s.reg rs2).toNat) (BitVec.ofInt 32 (s.pc.toInt + off.toInt)) ∧
    (off.getLsbD 0 = false → decode (off.extractLsb' 12 1 ++ off.extractLsb' 5 6 ++ rs2 ++ rs1 ++ 0b111#3 ++
      off.extractLsb' 1 4 ++ off.extractLsb' 11 1 ++ 0b1100011#7) = .ok (.bgeu rs1 rs2 off)) ∧
    Branches (.bgeu rs1 rs2 off) s ((s.reg rs1).toNat ≥ (s.reg rs2).toNat) (BitVec.ofInt 32 (s.pc.toInt + off.toInt))

/-- O22. InstructionAddressMisaligned is raised by JAL, JALR and taken branches whose target is no multiple of 4, by
nothing else that executes (R303). -/
def Obligations.MisalignedTargetRaisesAtTheTransfer : Prop :=
  (∀ (i : Instr) (s : State) (p v : Word),
    exec i s = .fault (.instructionAddressMisaligned p v) ↔ takenTarget s i = some v ∧ ¬ Aligned v ∧ p = s.pc) ∧
  (∀ (i : Instr) (s : State) (v : Word) (k : Nat), s.FetchReady → decode s.fetchedWord = .ok i →
    takenTarget s i = some v → ¬ Aligned v → run (k + 1) s = .trapped (.instructionAddressMisaligned s.pc v) s)

/-- O23. A completed instruction sets the pc to the target of a transfer that is made, and to pc + 4 otherwise (R24,
R150, R9). -/
def Obligations.PcAdvancesByFourOrToTheTarget : Prop :=
  ∀ (i : Instr) (s t : State), exec i s = .next t → t.pc = (takenTarget s i).getD (s.pc + 4#32)

/-- O24. LB, LH, LW, LBU, LHU: encoding, the bytes loaded at any alignment, extension, frame, and the access fault (R171,
R172, R173, R174, R175). -/
def Obligations.LoadsGiveTheBytes : Prop :=
  ∀ (rd rs1 : RegId) (imm : BitVec 12) (s : State) (ea : Word), ea = BitVec.ofInt 32 ((s.reg rs1).toInt + imm.toInt) →
    decode (imm ++ rs1 ++ 0b000#3 ++ rd ++ 0b0000011#7) = .ok (.lb rd rs1 imm) ∧
    Loads (.lb rd rs1 imm) s rd ea 1 ((s.byteAt ea 0).signExtend 32) ∧
    decode (imm ++ rs1 ++ 0b001#3 ++ rd ++ 0b0000011#7) = .ok (.lh rd rs1 imm) ∧
    Loads (.lh rd rs1 imm) s rd ea 2 ((s.byteAt ea 1 ++ s.byteAt ea 0).signExtend 32) ∧
    decode (imm ++ rs1 ++ 0b010#3 ++ rd ++ 0b0000011#7) = .ok (.lw rd rs1 imm) ∧
    Loads (.lw rd rs1 imm) s rd ea 4 (s.byteAt ea 3 ++ s.byteAt ea 2 ++ s.byteAt ea 1 ++ s.byteAt ea 0) ∧
    decode (imm ++ rs1 ++ 0b100#3 ++ rd ++ 0b0000011#7) = .ok (.lbu rd rs1 imm) ∧
    Loads (.lbu rd rs1 imm) s rd ea 1 ((s.byteAt ea 0).setWidth 32) ∧
    decode (imm ++ rs1 ++ 0b101#3 ++ rd ++ 0b0000011#7) = .ok (.lhu rd rs1 imm) ∧
    Loads (.lhu rd rs1 imm) s rd ea 2 ((s.byteAt ea 1 ++ s.byteAt ea 0).setWidth 32)

/-- O25. LoadAccessFault is raised by the five loads exactly when a byte is not legal for load, x0 destination included,
and changes nothing (R305). -/
def Obligations.LoadAccessFaultExactly : Prop :=
  (∀ (i : Instr) (s : State) (p v : Word), exec i s = .fault (.loadAccessFault p v) ↔
    ∃ rs1 imm n, loadAccess i = some (rs1, imm, n) ∧ v = effectiveAddr s rs1 imm ∧ p = s.pc ∧ ¬ s.BytesLegal .load v n) ∧
  (∀ (i : Instr) (s : State) (v : Word) (k : Nat), s.FetchReady → decode s.fetchedWord = .ok i →
    exec i s = .fault (.loadAccessFault s.pc v) → run (k + 1) s = .trapped (.loadAccessFault s.pc v) s)

/-- O26. SB, SH, SW: encoding, the bytes stored at any alignment, every other byte unchanged, Dirty, frame, and the
access fault (R176, R177, R178). -/
def Obligations.StoresWriteTheBytes : Prop :=
  (∀ (rs1 : RegId) (imm : BitVec 12) (s : State), effectiveAddr s rs1 imm = BitVec.ofInt 32 ((s.reg rs1).toInt + imm.toInt)) ∧
  ∀ (rs1 rs2 : RegId) (imm : BitVec 12) (s : State), s.mem.wf →
    decode (imm.extractLsb' 5 7 ++ rs2 ++ rs1 ++ 0b000#3 ++ imm.extractLsb' 0 5 ++ 0b0100011#7) = .ok (.sb rs1 rs2 imm) ∧
    Stores (.sb rs1 rs2 imm) s (effectiveAddr s rs1 imm) 1 (s.reg rs2) ∧
    decode (imm.extractLsb' 5 7 ++ rs2 ++ rs1 ++ 0b001#3 ++ imm.extractLsb' 0 5 ++ 0b0100011#7) = .ok (.sh rs1 rs2 imm) ∧
    Stores (.sh rs1 rs2 imm) s (effectiveAddr s rs1 imm) 2 (s.reg rs2) ∧
    decode (imm.extractLsb' 5 7 ++ rs2 ++ rs1 ++ 0b010#3 ++ imm.extractLsb' 0 5 ++ 0b0100011#7) = .ok (.sw rs1 rs2 imm) ∧
    Stores (.sw rs1 rs2 imm) s (effectiveAddr s rs1 imm) 4 (s.reg rs2)

/-- O27. StoreAccessFault is raised by the three stores exactly when a byte is not legal for store; no byte is written,
Dirty is unchanged (R306). -/
def Obligations.StoreAccessFaultExactly : Prop :=
  (∀ (i : Instr) (s : State) (p v : Word), exec i s = .fault (.storeAccessFault p v) ↔
    ∃ rs1 imm n, storeAccess i = some (rs1, imm, n) ∧ v = effectiveAddr s rs1 imm ∧ p = s.pc ∧ ¬ s.BytesLegal .store v n) ∧
  (∀ (i : Instr) (s : State) (v : Word) (k : Nat), s.FetchReady → decode s.fetchedWord = .ok i →
    exec i s = .fault (.storeAccessFault s.pc v) → run (k + 1) s = .trapped (.storeAccessFault s.pc v) s)

/-- O28. A load of the bytes just stored gives the value stored, at any address and alignment (R60, R51, R180). -/
def Obligations.StoreThenLoadReturnsTheValue : Prop :=
  ∀ (s t u : State) (rs1 rs2 rd b : RegId) (imm off : BitVec 12), s.mem.wf → rd ≠ 0#5 →
    u.mem = t.mem → u.regions = t.regions → effectiveAddr u b off = effectiveAddr s rs1 imm →
    (exec (.sw rs1 rs2 imm) s = .next t → u.BytesLegal .load (effectiveAddr u b off) 4 →
      ∃ w, exec (.lw rd b off) u = .next w ∧ w.reg rd = s.reg rs2) ∧
    (exec (.sh rs1 rs2 imm) s = .next t → u.BytesLegal .load (effectiveAddr u b off) 2 →
      ∃ w, exec (.lhu rd b off) u = .next w ∧ (w.reg rd).toNat = (s.reg rs2).toNat % 2 ^ 16) ∧
    (exec (.sb rs1 rs2 imm) s = .next t → u.BytesLegal .load (effectiveAddr u b off) 1 →
      ∃ w, exec (.lbu rd b off) u = .next w ∧ (w.reg rd).toNat = (s.reg rs2).toNat % 2 ^ 8)

/-- O29. Only SB, SH, SW change memory, and only the bytes of their access (R32, R170, R58). -/
def Obligations.OnlyStoresChangeMemory : Prop :=
  ∀ (s t : State) (a : Nat), s.mem.wf → step s = .next t → t.mem.read a ≠ s.mem.read a →
    ∃ i rs1 imm n j, decode s.fetchedWord = .ok i ∧ storeAccess i = some (rs1, imm, n) ∧ j < n ∧
      a = byteAddr (effectiveAddr s rs1 imm) j

/-- O30. Dirty grows by the bytes of a store, is emptied by FENCE.I, and is changed by nothing else (R63, R191, R170). -/
def Obligations.DirtyIsWhatWasStoredSinceFenceI : Prop :=
  ∀ (i : Instr) (s t : State) (a : Nat), exec i s = .next t →
    (a ∈ t.dirty ↔ i ≠ .fenceI ∧
      (a ∈ s.dirty ∨ ∃ rs1 imm n j, storeAccess i = some (rs1, imm, n) ∧ j < n ∧ a = byteAddr (effectiveAddr s rs1 imm) j))

/-- O31. Dirty is empty at start; a store adds the bytes it writes; FENCE.I empties it; a fetch that touches a Dirty byte
is refused (R63). -/
def Obligations.DirtyFetchIsRefused : Prop :=
  State.reset.dirty = [] ∧
  (∀ (i : Instr) (s t : State) (rs1 : RegId) (imm : BitVec 12) (n : Nat), storeAccess i = some (rs1, imm, n) →
    exec i s = .next t → ∀ a, a ∈ t.dirty ↔ a ∈ s.dirty ∨ ∃ j < n, a = byteAddr (effectiveAddr s rs1 imm) j) ∧
  (∀ s t : State, exec .fenceI s = .next t → t.dirty = []) ∧
  (∀ s : State, Aligned s.pc → s.BytesLegal .fetch s.pc 4 → s.BytesPlain s.pc 4 →
    (step s = .refused (.dirtyFetch s.pc) ↔ ∃ j < 4, byteAddr s.pc j ∈ s.dirty))

/-- O32. A legal access that touches an I/O address is refused, by name: fetch, loads and stores (the order after the
legality check is DESIGN CHOICE, log 28) (R58, R53). -/
def Obligations.IoAccessIsRefused : Prop :=
  (∀ s : State, Aligned s.pc → s.BytesLegal .fetch s.pc 4 → ¬ s.BytesPlain s.pc 4 →
    step s = .refused (.ioAccess s.pc)) ∧
  (∀ (i : Instr) (s : State) (rs1 : RegId) (imm : BitVec 12) (n : Nat), loadAccess i = some (rs1, imm, n) →
    s.BytesLegal .load (effectiveAddr s rs1 imm) n → ¬ s.BytesPlain (effectiveAddr s rs1 imm) n →
    exec i s = .refused (.ioAccess (effectiveAddr s rs1 imm))) ∧
  (∀ (i : Instr) (s : State) (rs1 : RegId) (imm : BitVec 12) (n : Nat), storeAccess i = some (rs1, imm, n) →
    s.BytesLegal .store (effectiveAddr s rs1 imm) n → ¬ s.BytesPlain (effectiveAddr s rs1 imm) n →
    exec i s = .refused (.ioAccess (effectiveAddr s rs1 imm)))

/-- O33. FENCE: encoding, and that it changes nothing but the pc and instret for every pred and succ; other fields non-
zero are illegal (R190). -/
def Obligations.FenceOnlyAdvances : Prop :=
  (∀ (pred succ : BitVec 4) (s : State),
    decode (0#4 ++ pred ++ succ ++ 0#5 ++ 0b000#3 ++ 0#5 ++ 0b0001111#7) = .ok (.fence pred succ) ∧
    ∃ t, exec (.fence pred succ) s = .next t ∧ OnlyAdvances s t (s.pc + 4#32)) ∧
  (∀ (fm pred succ : BitVec 4) (rs1 rd : BitVec 5) (s : State), ¬ (fm = 0#4 ∧ rs1 = 0#5 ∧ rd = 0#5) →
    s.FetchReady → s.fetchedWord = fm ++ pred ++ succ ++ rs1 ++ 0b000#3 ++ rd ++ 0b0001111#7 →
    step s = .fault (.illegalInstruction s.pc s.fetchedWord))

/-- O34. FENCE.I: encoding, Dirty emptied, nothing else changed but pc and instret, next fetch not refused for Dirty
(PRESUMED by the spec, G5, D11, log 31) (R191). -/
def Obligations.FenceIEmptiesDirty : Prop :=
  decode 0x0000100F#32 = .ok .fenceI ∧
  (∀ s : State, ∃ t, exec .fenceI s = .next t ∧ t.dirty = [] ∧ (∀ r, t.reg r = s.reg r) ∧ t.pc = s.pc + 4#32 ∧
    t.instret = s.instret + 1#64 ∧ t.cycle = s.cycle ∧ t.time = s.time ∧ (∀ a, t.mem.read a = s.mem.read a) ∧
    t.regions = s.regions ∧ t.draws = s.draws ∧ (∀ p, step t ≠ .refused (.dirtyFetch p))) ∧
  (∀ (f : BitVec 12) (rs1 rd : BitVec 5) (s : State), ¬ (f = 0#12 ∧ rs1 = 0#5 ∧ rd = 0#5) → s.FetchReady →
    s.fetchedWord = f ++ rs1 ++ 0b001#3 ++ rd ++ 0b0001111#7 → step s = .fault (.illegalInstruction s.pc s.fetchedWord))

/-- O35. Reading instret: CSRRS, CSRRC with rs1 = x0 and CSRRSI, CSRRCI with uimm = 0 give a half of the count before the
instruction (R29, R200, R202, R203, R205, R206, R207, R210, R95). -/
def Obligations.InstretReadsTheCountBefore : Prop :=
  ∀ (rd f : BitVec 5) (csr : CsrId) (s : State),
    decode (csr ++ f ++ 0b010#3 ++ rd ++ 0b1110011#7) = .ok (.csrrs rd csr f) ∧
    decode (csr ++ f ++ 0b011#3 ++ rd ++ 0b1110011#7) = .ok (.csrrc rd csr f) ∧
    decode (csr ++ f ++ 0b110#3 ++ rd ++ 0b1110011#7) = .ok (.csrrsi rd csr f) ∧
    decode (csr ++ f ++ 0b111#3 ++ rd ++ 0b1110011#7) = .ok (.csrrci rd csr f) ∧
    Yields (.csrrs rd 0xC02#12 0#5) s rd (s.instret.extractLsb' 0 32) ∧
    Yields (.csrrs rd 0xC82#12 0#5) s rd (s.instret.extractLsb' 32 32) ∧
    Yields (.csrrc rd 0xC02#12 0#5) s rd (s.instret.extractLsb' 0 32) ∧
    Yields (.csrrc rd 0xC82#12 0#5) s rd (s.instret.extractLsb' 32 32) ∧
    Yields (.csrrsi rd 0xC02#12 0#5) s rd (s.instret.extractLsb' 0 32) ∧
    Yields (.csrrsi rd 0xC82#12 0#5) s rd (s.instret.extractLsb' 32 32) ∧
    Yields (.csrrci rd 0xC02#12 0#5) s rd (s.instret.extractLsb' 0 32) ∧
    Yields (.csrrci rd 0xC82#12 0#5) s rd (s.instret.extractLsb' 32 32)

/-- O36. Reading cycle and time: the reads complete with a half of a 64-bit value not below the one read before (R27,
R28, R200, R202, R203, R205, R206, R208, R209, R346). -/
def Obligations.CycleAndTimeReadsNeverDecrease : Prop :=
  ∀ (rd : RegId) (s : State),
    (∃ t, exec (.csrrs rd 0xC00#12 0#5) s = .next t ∧ ReadsCycle s t rd 0) ∧
    (∃ t, exec (.csrrs rd 0xC80#12 0#5) s = .next t ∧ ReadsCycle s t rd 32) ∧
    (∃ t, exec (.csrrs rd 0xC01#12 0#5) s = .next t ∧ ReadsTime s t rd 0) ∧
    (∃ t, exec (.csrrs rd 0xC81#12 0#5) s = .next t ∧ ReadsTime s t rd 32) ∧
    (∃ t, exec (.csrrc rd 0xC00#12 0#5) s = .next t ∧ ReadsCycle s t rd 0) ∧
    (∃ t, exec (.csrrc rd 0xC80#12 0#5) s = .next t ∧ ReadsCycle s t rd 32) ∧
    (∃ t, exec (.csrrc rd 0xC01#12 0#5) s = .next t ∧ ReadsTime s t rd 0) ∧
    (∃ t, exec (.csrrc rd 0xC81#12 0#5) s = .next t ∧ ReadsTime s t rd 32) ∧
    (∃ t, exec (.csrrsi rd 0xC00#12 0#5) s = .next t ∧ ReadsCycle s t rd 0) ∧
    (∃ t, exec (.csrrsi rd 0xC80#12 0#5) s = .next t ∧ ReadsCycle s t rd 32) ∧
    (∃ t, exec (.csrrsi rd 0xC01#12 0#5) s = .next t ∧ ReadsTime s t rd 0) ∧
    (∃ t, exec (.csrrsi rd 0xC81#12 0#5) s = .next t ∧ ReadsTime s t rd 32) ∧
    (∃ t, exec (.csrrci rd 0xC00#12 0#5) s = .next t ∧ ReadsCycle s t rd 0) ∧
    (∃ t, exec (.csrrci rd 0xC80#12 0#5) s = .next t ∧ ReadsCycle s t rd 32) ∧
    (∃ t, exec (.csrrci rd 0xC01#12 0#5) s = .next t ∧ ReadsTime s t rd 0) ∧
    (∃ t, exec (.csrrci rd 0xC81#12 0#5) s = .next t ∧ ReadsTime s t rd 32)

/-- O37. CSRRW and CSRRWI always raise IllegalInstruction; CSRRS, CSRRC, CSRRSI, CSRRCI do for an absent CSR or a non-
zero source field (R200, R201, R202, R203, R204, R205, R206, R310). -/
def Obligations.CsrWritesAndAbsentCsrsAreIllegal : Prop :=
  ∀ (rd f : BitVec 5) (csr : CsrId) (s : State),
    decode (csr ++ f ++ 0b001#3 ++ rd ++ 0b1110011#7) = .ok (.csrrw rd csr f) ∧
    exec (.csrrw rd csr f) s = .fault (.illegalInstruction s.pc (csr ++ f ++ 0b001#3 ++ rd ++ 0b1110011#7)) ∧
    decode (csr ++ f ++ 0b101#3 ++ rd ++ 0b1110011#7) = .ok (.csrrwi rd csr f) ∧
    exec (.csrrwi rd csr f) s = .fault (.illegalInstruction s.pc (csr ++ f ++ 0b101#3 ++ rd ++ 0b1110011#7)) ∧
    (csr ∉ counterCsrs ∨ f ≠ 0#5 →
      exec (.csrrs rd csr f) s = .fault (.illegalInstruction s.pc (csr ++ f ++ 0b010#3 ++ rd ++ 0b1110011#7))) ∧
    (csr ∉ counterCsrs ∨ f ≠ 0#5 →
      exec (.csrrc rd csr f) s = .fault (.illegalInstruction s.pc (csr ++ f ++ 0b011#3 ++ rd ++ 0b1110011#7))) ∧
    (csr ∉ counterCsrs ∨ f ≠ 0#5 →
      exec (.csrrsi rd csr f) s = .fault (.illegalInstruction s.pc (csr ++ f ++ 0b110#3 ++ rd ++ 0b1110011#7))) ∧
    (csr ∉ counterCsrs ∨ f ≠ 0#5 →
      exec (.csrrci rd csr f) s = .fault (.illegalInstruction s.pc (csr ++ f ++ 0b111#3 ++ rd ++ 0b1110011#7)))

/-- O38. instret goes up by exactly 1 modulo 2^64 for each completed step, over runs of any length (R29, R9, R346, R310). -/
def Obligations.InstretCountsCompletedSteps : Prop :=
  (∀ s t : State, step s = .next t → t.instret = s.instret + 1#64) ∧
  (∀ (k : Nat) (s t : State), run k s = .running t → t.instret = s.instret + BitVec.ofNat 64 k) ∧
  (∀ (k : Nat) (s t : State) (r : Fault), run k s = .trapped r t →
    ∃ j < k, run j s = .running t ∧ t.instret = s.instret + BitVec.ofNat 64 j ∧ step t = .fault r)

/-- O39. The values of cycle and time last read never decrease, over runs of any length (R27, R28, R346). -/
def Obligations.CyclesAndTimeRiseOverRuns : Prop :=
  ∀ (k : Nat) (s t : State), run k s = .running t → s.cycle.toNat ≤ t.cycle.toNat ∧ s.time.toNat ≤ t.time.toNat

/-- O40. EnvironmentCall is raised by every ECALL, with value 0, and by no other instruction (R307). -/
def Obligations.EnvironmentCallByEveryEcall : Prop :=
  decode 0x00000073#32 = .ok .ecall ∧ encode .ecall = 0x00000073#32 ∧
  ∀ (i : Instr) (s : State) (p v : Word), exec i s = .fault (.environmentCall p v) ↔ i = .ecall ∧ p = s.pc ∧ v = 0#32

/-- O41. Breakpoint is raised by every EBREAK, with the pc as value, and by no other instruction and no address match
(R308). -/
def Obligations.BreakpointByEveryEbreak : Prop :=
  decode 0x00100073#32 = .ok .ebreak ∧ encode .ebreak = 0x00100073#32 ∧
  (∀ (i : Instr) (s : State) (p v : Word), exec i s = .fault (.breakpoint p v) ↔ i = .ebreak ∧ p = s.pc ∧ v = s.pc) ∧
  (∀ (s : State) (p v : Word), step s = .fault (.breakpoint p v) ↔
    s.FetchReady ∧ s.fetchedWord = 0x00100073#32 ∧ p = s.pc ∧ v = s.pc)

/-- O42. The RV64I and RV64M rows raise IllegalInstruction with the word (R252, R253, R254, R255, R256, R270, R278, R100,
R302). -/
def Obligations.Rv64RowsAreIllegal : Prop :=
  ∀ (i : Instr) (s : State), rowGroup i = .rv64i ∨ rowGroup i = .rv64m → exec i s = .fault (.illegalInstruction s.pc (encode i))

/-- O43. The RV32A and RV64A rows raise IllegalInstruction with the word (R271, R272, R278, R100, R302). -/
def Obligations.AtomicRowsAreIllegal : Prop :=
  ∀ (i : Instr) (s : State), rowGroup i = .rv32a ∨ rowGroup i = .rv64a → exec i s = .fault (.illegalInstruction s.pc (encode i))

/-- O44. The RV32F and RV64F rows raise IllegalInstruction with the word (R273, R274, R278, R100, R302). -/
def Obligations.SingleFloatRowsAreIllegal : Prop :=
  ∀ (i : Instr) (s : State), rowGroup i = .rv32f ∨ rowGroup i = .rv64f → exec i s = .fault (.illegalInstruction s.pc (encode i))

/-- O45. The RV32D and RV64D rows raise IllegalInstruction with the word (R275, R276, R278, R100, R302). -/
def Obligations.DoubleFloatRowsAreIllegal : Prop :=
  ∀ (i : Instr) (s : State), rowGroup i = .rv32d ∨ rowGroup i = .rv64d → exec i s = .fault (.illegalInstruction s.pc (encode i))

/-- O46. A step raises IllegalInstruction exactly for words that match no row, absent CSRs and writes to read-only CSRs,
with the word as value (R302). -/
def Obligations.IllegalInstructionExactly : Prop :=
  (∀ (s : State) (p w : Word), step s = .fault (.illegalInstruction p w) ↔
    s.FetchReady ∧ p = s.pc ∧ w = s.fetchedWord ∧
      (¬ matchesTable w ∨
        (Field.opcode w = 0b1110011#7 ∧ Field.funct3 w ≠ 0b000#3 ∧ Field.funct3 w ≠ 0b100#3 ∧
          (w.extractLsb' 20 12 ∉ counterCsrs ∨ Field.funct3 w = 0b001#3 ∨ Field.funct3 w = 0b101#3 ∨
            Field.rs1 w ≠ 0#5)))) ∧
  (∀ (s : State) (p w : Word) (k : Nat), step s = .fault (.illegalInstruction p w) →
    run (k + 1) s = .trapped (.illegalInstruction p w) s)

/-- O47. InstructionAccessFault is raised by the fetch of a byte that is not legal, with the pc; a jump to an illegal
address completes first (R304). -/
def Obligations.InstructionAccessFaultAtTheFetch : Prop :=
  (∀ (s : State) (p v : Word), Aligned s.pc →
    (step s = .fault (.instructionAccessFault p v) ↔ p = s.pc ∧ v = s.pc ∧ ¬ s.BytesLegal .fetch s.pc 4)) ∧
  (∀ (i : Instr) (s : State) (p v : Word), exec i s ≠ .fault (.instructionAccessFault p v)) ∧
  (∀ (i : Instr) (rd rs1 : RegId) (off : BitVec 21) (imm : BitVec 12) (s : State) (target : Word),
    i = .jal rd off ∨ i = .jalr rd rs1 imm → takenTarget s i = some target → Aligned target →
    ¬ s.BytesLegal .fetch target 4 →
    ∃ t, exec i s = .next t ∧ t.instret = s.instret + 1#64 ∧ (rd ≠ 0#5 → t.reg rd = s.pc + 4#32) ∧
      step t = .fault (.instructionAccessFault target target))

/-- O48. A step that raises ends the run with its record, the pc of the record that of the step, and the state before the
step handed over (R309, R310, R341). -/
def Obligations.TrapRecordsArePrecise : Prop :=
  (∀ (s : State) (r : Fault), step s = .fault r → r.pc = s.pc ∧ ∀ k, run (k + 1) s = .trapped r s) ∧
  (∀ (k : Nat) (s t : State) (r : Fault), run k s = .trapped r t → step t = .fault r ∧ r.pc = t.pc)

/-- O49. Fetch, decode, execute: an earlier phase wins, and a misaligned LW at an illegal address raises LoadAccessFault
(R311). -/
def Obligations.PhasesOrderExceptions : Prop :=
  (∀ s : State, Aligned s.pc → ¬ s.BytesLegal .fetch s.pc 4 → step s = .fault (.instructionAccessFault s.pc s.pc)) ∧
  (∀ (s : State) (e : DecodeError), s.FetchReady → decode s.fetchedWord = .error e →
    step s = .fault (.illegalInstruction s.pc s.fetchedWord)) ∧
  (∀ (s : State) (i : Instr) (r : Fault), s.FetchReady → decode s.fetchedWord = .ok i →
    (step s = .fault r ↔ exec i s = .fault r)) ∧
  (∀ (s : State) (rd rs1 : RegId) (imm : BitVec 12), ¬ Aligned (effectiveAddr s rs1 imm) →
    ¬ s.BytesLegal .load (effectiveAddr s rs1 imm) 4 →
    exec (.lw rd rs1 imm) s = .fault (.loadAccessFault s.pc (effectiveAddr s rs1 imm)))

/-- O50. No integer computational instruction and no multiply or divide ever raises or is refused: each completes in
every state (R120, R143, R240, R312). -/
def Obligations.IntegerInstructionsNeverRaise : Prop :=
  ∀ (i : Instr) (s : State), rowGroup i = .integer ∨ rowGroup i = .mulDiv →
    ∃ t, exec i s = .next t ∧ t.pc = s.pc + 4#32 ∧ t.instret = s.instret + 1#64 ∧ t.mem = s.mem ∧ t.dirty = s.dirty ∧
      t.cycle = s.cycle ∧ t.time = s.time

/-- O51. A step keeps the invariant: memory and Dirty in canonical form, the pc a multiple of 4 (R24, R32, R63, R159). -/
def Obligations.EveryStepKeepsTheInvariant : Prop :=
  ∀ s t : State, s.Inv → step s = .next t → t.Inv

/-- O52. Runs from a state with the invariant stay in it, and no fetch of theirs finds a misaligned pc (R24, R341, R9). -/
def Obligations.RunsKeepTheInvariant : Prop :=
  ∀ (k : Nat) (s : State), s.Inv →
    (∀ t, run k s = .running t → t.Inv) ∧
    (∀ r t, run k s = .trapped r t → t.Inv) ∧
    (∀ why t, run k s = .refused why t → t.Inv) ∧
    (∀ t p v, run k s = .trapped (.instructionAddressMisaligned p v) t →
      ∃ i, decode t.fetchedWord = .ok i ∧ takenTarget t i = some v)

/-- O53. The reset state and every start state have the invariant (the reset values of x, pc, counters, memory and map
are DESIGN CHOICE, logs 1 to 5) (R34, R340). -/
def Obligations.StartStatesHaveTheInvariant : Prop :=
  State.reset.Start ∧ State.reset.reg 0#5 = 0#32 ∧ ∀ s : State, s.Start → s.Inv

/-- O54. x0 reads 0 in every state, and a completed step changes no integer register that the rd field of its word does
not name (R20, R22). -/
def Obligations.OnlyRdChanges : Prop :=
  (∀ s : State, s.reg 0#5 = 0#32) ∧
  (∀ (s t : State) (r : RegId), step s = .next t → r ≠ Field.rd s.fetchedWord → t.reg r = s.reg r) ∧
  (∀ (i : Instr) (s t : State) (r : RegId), exec i s = .next t →
    Field.opcode (encode i) = 0b1100011#7 ∨ Field.opcode (encode i) = 0b0100011#7 ∨
      Field.opcode (encode i) = 0b0001111#7 → t.reg r = s.reg r)

/-- O55. A step is refused only for a Dirty byte of its fetch or an I/O byte of its own fetch, load or store (the address
recorded is the model's form, logs 9, 10) (R58, R63). -/
def Obligations.RefusalsAreDirtyOrIo : Prop :=
  (∀ (s : State) (why : Refusal), step s = .refused why →
    (why = .dirtyFetch s.pc ∧ ∃ j < 4, byteAddr s.pc j ∈ s.dirty) ∨
    (why = .ioAccess s.pc ∧ ∃ j < 4, s.isIO (byteAddr s.pc j) = true) ∨
    (s.FetchReady ∧ ∃ i rs1 imm n, decode s.fetchedWord = .ok i ∧
      (loadAccess i = some (rs1, imm, n) ∨ storeAccess i = some (rs1, imm, n)) ∧
      why = .ioAccess (effectiveAddr s rs1 imm) ∧ ∃ j < n, s.isIO (byteAddr (effectiveAddr s rs1 imm) j) = true)) ∧
  (∀ s : State, s.dirty = [] → (∀ a, s.isIO a = false) → (∃ t, step s = .next t) ∨ ∃ r, step s = .fault r)

/-- O56. No step changes the address map: the parameters Legal and IsIO are the same over a whole run (R53, R5, R58). -/
def Obligations.AddressMapNeverChanges : Prop :=
  ∀ (k : Nat) (s t : State), run k s = .running t ∨ (∃ r, run k s = .trapped r t) →
    t.regions = s.regions ∧ (∀ kind a, t.legal kind a = s.legal kind a) ∧ ∀ a, t.isIO a = s.isIO a

/-- O57. A word the environment places at an aligned pc is the word the next step fetches (how a program is placed is the
model's choice, log 6) (R342, R52). -/
def Obligations.PlacedWordIsFetched : Prop :=
  ∀ (s : State) (w : Word), s.mem.wf → Aligned s.pc →
    (s.withFetchWord 32 w.toNat).FetchReady ∧ (s.withFetchWord 32 w.toNat).fetchedWord = w ∧
    (∀ r, (s.withFetchWord 32 w.toNat).reg r = s.reg r) ∧ (s.withFetchWord 32 w.toNat).pc = s.pc ∧
    (s.withFetchWord 32 w.toNat).instret = s.instret ∧ (s.withFetchWord 32 w.toNat).cycle = s.cycle ∧
    (s.withFetchWord 32 w.toNat).time = s.time ∧
    (∀ a, (∀ j < 4, a ≠ byteAddr s.pc j) → (s.withFetchWord 32 w.toNat).mem.read a = s.mem.read a) ∧
    (∀ i, decode w = .ok i → step (s.withFetchWord 32 w.toNat) = exec i (s.withFetchWord 32 w.toNat))
end

