-- ==== Sys2Proof/Laws/State.lean ====
section
/-! SUPPORT. One lemma for each field of State under each update, and the registers' read-after-write law, so that no proof unfolds a
record update. -/

namespace Sys2Proof.Machine

/-! ## writeReg -/

@[simp] theorem State.writeReg_x (s : State) (r : RegId) (v : Word) :
    (s.writeReg r v).x = RegFile.set s.x r v := rfl
@[simp] theorem State.writeReg_pc (s : State) (r : RegId) (v : Word) :
    (s.writeReg r v).pc = s.pc := rfl
@[simp] theorem State.writeReg_cycle (s : State) (r : RegId) (v : Word) :
    (s.writeReg r v).cycle = s.cycle := rfl
@[simp] theorem State.writeReg_time (s : State) (r : RegId) (v : Word) :
    (s.writeReg r v).time = s.time := rfl
@[simp] theorem State.writeReg_instret (s : State) (r : RegId) (v : Word) :
    (s.writeReg r v).instret = s.instret := rfl
@[simp] theorem State.writeReg_mem (s : State) (r : RegId) (v : Word) :
    (s.writeReg r v).mem = s.mem := rfl
@[simp] theorem State.writeReg_dirty (s : State) (r : RegId) (v : Word) :
    (s.writeReg r v).dirty = s.dirty := rfl
@[simp] theorem State.writeReg_regions (s : State) (r : RegId) (v : Word) :
    (s.writeReg r v).regions = s.regions := rfl
@[simp] theorem State.writeReg_draws (s : State) (r : RegId) (v : Word) :
    (s.writeReg r v).draws = s.draws := rfl
@[simp] theorem State.writeReg_legal (s : State) (r : RegId) (v : Word) :
    (s.writeReg r v).legal = s.legal := rfl
@[simp] theorem State.writeReg_isIO (s : State) (r : RegId) (v : Word) :
    (s.writeReg r v).isIO = s.isIO := rfl

/-! ## retireTo -/

@[simp] theorem State.retireTo_x (s : State) (t : Word) :
    (s.retireTo t).x = s.x := rfl
@[simp] theorem State.retireTo_pc (s : State) (t : Word) :
    (s.retireTo t).pc = t := rfl
@[simp] theorem State.retireTo_cycle (s : State) (t : Word) :
    (s.retireTo t).cycle = s.cycle := rfl
@[simp] theorem State.retireTo_time (s : State) (t : Word) :
    (s.retireTo t).time = s.time := rfl
@[simp] theorem State.retireTo_instret (s : State) (t : Word) :
    (s.retireTo t).instret = s.instret + 1#64 := rfl
@[simp] theorem State.retireTo_mem (s : State) (t : Word) :
    (s.retireTo t).mem = s.mem := rfl
@[simp] theorem State.retireTo_dirty (s : State) (t : Word) :
    (s.retireTo t).dirty = s.dirty := rfl
@[simp] theorem State.retireTo_regions (s : State) (t : Word) :
    (s.retireTo t).regions = s.regions := rfl
@[simp] theorem State.retireTo_draws (s : State) (t : Word) :
    (s.retireTo t).draws = s.draws := rfl
@[simp] theorem State.retireTo_reg (s : State) (t : Word) (r' : RegId) :
    (s.retireTo t).reg r' = s.reg r' := rfl
@[simp] theorem State.retireTo_legal (s : State) (t : Word) :
    (s.retireTo t).legal = s.legal := rfl
@[simp] theorem State.retireTo_isIO (s : State) (t : Word) :
    (s.retireTo t).isIO = s.isIO := rfl

/-! ## retire -/

@[simp] theorem State.retire_x (s : State) :
    (s.retire).x = s.x := rfl
@[simp] theorem State.retire_pc (s : State) :
    (s.retire).pc = s.pc + 4#32 := rfl
@[simp] theorem State.retire_cycle (s : State) :
    (s.retire).cycle = s.cycle := rfl
@[simp] theorem State.retire_time (s : State) :
    (s.retire).time = s.time := rfl
@[simp] theorem State.retire_instret (s : State) :
    (s.retire).instret = s.instret + 1#64 := rfl
@[simp] theorem State.retire_mem (s : State) :
    (s.retire).mem = s.mem := rfl
@[simp] theorem State.retire_dirty (s : State) :
    (s.retire).dirty = s.dirty := rfl
@[simp] theorem State.retire_regions (s : State) :
    (s.retire).regions = s.regions := rfl
@[simp] theorem State.retire_draws (s : State) :
    (s.retire).draws = s.draws := rfl
@[simp] theorem State.retire_reg (s : State) (r' : RegId) :
    (s.retire).reg r' = s.reg r' := rfl
@[simp] theorem State.retire_legal (s : State) :
    (s.retire).legal = s.legal := rfl
@[simp] theorem State.retire_isIO (s : State) :
    (s.retire).isIO = s.isIO := rfl

/-! ## stored -/

@[simp] theorem State.stored_x (s : State) (ea : Word) (n : Nat) (v : Word) :
    (s.stored ea n v).x = s.x := rfl
@[simp] theorem State.stored_pc (s : State) (ea : Word) (n : Nat) (v : Word) :
    (s.stored ea n v).pc = s.pc := rfl
@[simp] theorem State.stored_cycle (s : State) (ea : Word) (n : Nat) (v : Word) :
    (s.stored ea n v).cycle = s.cycle := rfl
@[simp] theorem State.stored_time (s : State) (ea : Word) (n : Nat) (v : Word) :
    (s.stored ea n v).time = s.time := rfl
@[simp] theorem State.stored_instret (s : State) (ea : Word) (n : Nat) (v : Word) :
    (s.stored ea n v).instret = s.instret := rfl
@[simp] theorem State.stored_mem (s : State) (ea : Word) (n : Nat) (v : Word) :
    (s.stored ea n v).mem = s.mem.writeValue ea n v := rfl
@[simp] theorem State.stored_dirty (s : State) (ea : Word) (n : Nat) (v : Word) :
    (s.stored ea n v).dirty = AddrSet.insertAll s.dirty (accessAddrs ea n) := rfl
@[simp] theorem State.stored_regions (s : State) (ea : Word) (n : Nat) (v : Word) :
    (s.stored ea n v).regions = s.regions := rfl
@[simp] theorem State.stored_draws (s : State) (ea : Word) (n : Nat) (v : Word) :
    (s.stored ea n v).draws = s.draws := rfl
@[simp] theorem State.stored_reg (s : State) (ea : Word) (n : Nat) (v : Word) (r' : RegId) :
    (s.stored ea n v).reg r' = s.reg r' := rfl
@[simp] theorem State.stored_legal (s : State) (ea : Word) (n : Nat) (v : Word) :
    (s.stored ea n v).legal = s.legal := rfl
@[simp] theorem State.stored_isIO (s : State) (ea : Word) (n : Nat) (v : Word) :
    (s.stored ea n v).isIO = s.isIO := rfl

/-! ## drawCycle -/

@[simp] theorem State.drawCycle_x (s : State) :
    (s.drawCycle).x = s.x := rfl
@[simp] theorem State.drawCycle_pc (s : State) :
    (s.drawCycle).pc = s.pc := rfl
@[simp] theorem State.drawCycle_cycle (s : State) :
    (s.drawCycle).cycle = laterOf s.cycle (Config.cycleDraw s.draws) := rfl
@[simp] theorem State.drawCycle_time (s : State) :
    (s.drawCycle).time = s.time := rfl
@[simp] theorem State.drawCycle_instret (s : State) :
    (s.drawCycle).instret = s.instret := rfl
@[simp] theorem State.drawCycle_mem (s : State) :
    (s.drawCycle).mem = s.mem := rfl
@[simp] theorem State.drawCycle_dirty (s : State) :
    (s.drawCycle).dirty = s.dirty := rfl
@[simp] theorem State.drawCycle_regions (s : State) :
    (s.drawCycle).regions = s.regions := rfl
@[simp] theorem State.drawCycle_draws (s : State) :
    (s.drawCycle).draws = s.draws + 1 := rfl
@[simp] theorem State.drawCycle_reg (s : State) (r' : RegId) :
    (s.drawCycle).reg r' = s.reg r' := rfl
@[simp] theorem State.drawCycle_legal (s : State) :
    (s.drawCycle).legal = s.legal := rfl
@[simp] theorem State.drawCycle_isIO (s : State) :
    (s.drawCycle).isIO = s.isIO := rfl

/-! ## drawTime -/

@[simp] theorem State.drawTime_x (s : State) :
    (s.drawTime).x = s.x := rfl
@[simp] theorem State.drawTime_pc (s : State) :
    (s.drawTime).pc = s.pc := rfl
@[simp] theorem State.drawTime_cycle (s : State) :
    (s.drawTime).cycle = s.cycle := rfl
@[simp] theorem State.drawTime_time (s : State) :
    (s.drawTime).time = laterOf s.time (Config.timeDraw s.draws) := rfl
@[simp] theorem State.drawTime_instret (s : State) :
    (s.drawTime).instret = s.instret := rfl
@[simp] theorem State.drawTime_mem (s : State) :
    (s.drawTime).mem = s.mem := rfl
@[simp] theorem State.drawTime_dirty (s : State) :
    (s.drawTime).dirty = s.dirty := rfl
@[simp] theorem State.drawTime_regions (s : State) :
    (s.drawTime).regions = s.regions := rfl
@[simp] theorem State.drawTime_draws (s : State) :
    (s.drawTime).draws = s.draws + 1 := rfl
@[simp] theorem State.drawTime_reg (s : State) (r' : RegId) :
    (s.drawTime).reg r' = s.reg r' := rfl
@[simp] theorem State.drawTime_legal (s : State) :
    (s.drawTime).legal = s.legal := rfl
@[simp] theorem State.drawTime_isIO (s : State) :
    (s.drawTime).isIO = s.isIO := rfl

/-! ## placeWord -/

@[simp] theorem State.placeWord_x (s : State) (w : Word) :
    (s.placeWord w).x = s.x := rfl
@[simp] theorem State.placeWord_pc (s : State) (w : Word) :
    (s.placeWord w).pc = s.pc := rfl
@[simp] theorem State.placeWord_cycle (s : State) (w : Word) :
    (s.placeWord w).cycle = s.cycle := rfl
@[simp] theorem State.placeWord_time (s : State) (w : Word) :
    (s.placeWord w).time = s.time := rfl
@[simp] theorem State.placeWord_instret (s : State) (w : Word) :
    (s.placeWord w).instret = s.instret := rfl
@[simp] theorem State.placeWord_mem (s : State) (w : Word) :
    (s.placeWord w).mem = s.mem.writeValue s.pc 4 w := rfl
@[simp] theorem State.placeWord_dirty (s : State) (w : Word) :
    (s.placeWord w).dirty = s.dirty.filter (fun a => decide (a ∉ accessAddrs s.pc 4)) := rfl
@[simp] theorem State.placeWord_regions (s : State) (w : Word) :
    (s.placeWord w).regions = if s.fetchOpen then s.regions else (accessAddrs s.pc 4).map s.fetchableByte ++ s.regions := rfl
@[simp] theorem State.placeWord_draws (s : State) (w : Word) :
    (s.placeWord w).draws = s.draws := rfl
@[simp] theorem State.placeWord_reg (s : State) (w : Word) (r' : RegId) :
    (s.placeWord w).reg r' = s.reg r' := rfl

/-! ## Registers -/

/-- x0 reads 0 in every state (R20). -/
@[simp] theorem State.reg_zero (s : State) : s.reg 0#5 = 0#32 := by simp [State.reg, RegFile.get]

/-- A write to x0 is discarded (R20). -/
@[simp] theorem State.writeReg_zero (s : State) (v : Word) : s.writeReg 0#5 v = s := by
  simp [State.writeReg, RegFile.set]

/-- Read after write, for every register number (R20). -/
theorem State.reg_writeReg (s : State) (r r' : RegId) (v : Word) :
    (s.writeReg r v).reg r' = if r' = r ∧ r ≠ 0#5 then v else s.reg r' := by
  unfold State.reg State.writeReg RegFile.get RegFile.set
  by_cases hr' : r' = 0#5
  · subst hr'
    by_cases hr : r = 0#5 <;> simp [hr, eq_comm]
  · by_cases hr : r = 0#5
    · simp [hr, hr']
    · have h1 : r.toNat ≠ 0 := fun e => hr (BitVec.eq_of_toNat_eq (by simpa using e))
      have h2 : r'.toNat ≠ 0 := fun e => hr' (BitVec.eq_of_toNat_eq (by simpa using e))
      by_cases he : r' = r
      · subst he; simp [hr]
      · have h3 : r.toNat ≠ r'.toNat := fun e => he (BitVec.eq_of_toNat_eq e.symm)
        have h4 : r.toNat - 1 ≠ r'.toNat - 1 := by omega
        simp [hr, hr', he, h4]

@[simp] theorem State.reg_writeReg_self (s : State) {r : RegId} (v : Word) (h : r ≠ 0#5) :
    (s.writeReg r v).reg r = v := by simp [State.reg_writeReg, h]

theorem State.reg_writeReg_ne (s : State) {r r' : RegId} (v : Word) (h : r' ≠ r) :
    (s.writeReg r v).reg r' = s.reg r' := by simp [State.reg_writeReg, h]

end Sys2Proof.Machine
end

