-- ==== Sys2Proof/Laws/Memory.lean ====
section
/-! SUPPORT. The laws of memory and of address sets: reading after writing, and that every operation keeps the canonical form. -/

namespace Sys2Proof.Machine

/-! ## One byte -/

@[simp] theorem Memory.read_nil (a : Nat) : Memory.read [] a = Config.unlistedByte := rfl

@[simp] theorem Memory.read_cons (b : Nat) (v : Byte) (m : Memory) (a : Nat) :
    Memory.read ((b, v) :: m) a = if b = a then v else Memory.read m a := rfl

/-- An address below every listed one reads as an unlisted address. -/
theorem Memory.read_of_lt {m : Memory} {a : Nat} (h : ∀ c ∈ m, a < c.1) : m.read a = Config.unlistedByte := by
  induction m with
  | nil => rfl
  | cons c m ih =>
    obtain ⟨b, v⟩ := c
    have hb : a < b := h (b, v) (by simp)
    rw [Memory.read_cons, if_neg (by omega), ih fun c hc => h c (by simp [hc])]

theorem Memory.read_consEntry {a : Nat} {v : Byte} {m : Memory} (h : ∀ c ∈ m, a < c.1) (b : Nat) :
    (Memory.consEntry a v m).read b = if b = a then v else m.read b := by
  unfold Memory.consEntry
  by_cases hb : b = a
  · subst hb; split <;> simp_all [Memory.read_of_lt h]
  · split <;> simp [Ne.symm hb]

/-- Read after write of one byte: the value at the address written, and every other byte as before. -/
theorem Memory.read_write {m : Memory} (h : m.Pairwise (fun c d => c.1 < d.1)) (a : Nat) (v : Byte) (b : Nat) :
    (m.write a v).read b = if b = a then v else m.read b := by
  induction m with
  | nil => exact Memory.read_consEntry (by simp) b
  | cons c m ih =>
    obtain ⟨k, u⟩ := c
    obtain ⟨hk, hm⟩ := List.pairwise_cons.1 h
    unfold Memory.write
    split
    · rename_i hak
      refine Memory.read_consEntry (fun c hc => ?_) b
      rcases List.mem_cons.1 hc with rfl | hc
      · exact hak
      · exact Nat.lt_trans hak (hk c hc)
    · split
      · rename_i hak; subst hak
        rw [Memory.read_consEntry (fun c hc => hk c hc) b, Memory.read_cons]
        split
        · rfl
        · rw [if_neg (by omega)]
      · rw [Memory.read_cons, Memory.read_cons, ih hm]
        split <;> split <;> first | rfl | omega

theorem Memory.mem_consEntry {a : Nat} {v : Byte} {m : Memory} {c : Host.Cell} (h : c ∈ Memory.consEntry a v m) :
    (c = (a, v) ∧ v ≠ Config.unlistedByte) ∨ c ∈ m := by
  unfold Memory.consEntry at h
  split at h
  · exact .inr h
  · rcases List.mem_cons.1 h with rfl | h
    · exact .inl ⟨rfl, ‹_›⟩
    · exact .inr h

theorem Memory.mem_write {m : Memory} {a : Nat} {v : Byte} {c : Host.Cell} (h : c ∈ m.write a v) :
    (c = (a, v) ∧ v ≠ Config.unlistedByte) ∨ c ∈ m := by
  induction m with
  | nil => exact Memory.mem_consEntry h
  | cons d m ih =>
    obtain ⟨k, u⟩ := d
    unfold Memory.write at h
    split at h
    · exact Memory.mem_consEntry h
    · split at h
      · exact (Memory.mem_consEntry h).imp_right (List.mem_cons_of_mem _)
      · rcases List.mem_cons.1 h with rfl | h
        · exact .inr (by simp)
        · exact (ih h).imp_right (List.mem_cons_of_mem _)

theorem Memory.consEntry_pairwise {a : Nat} {v : Byte} {m : Memory} (h : ∀ c ∈ m, a < c.1)
    (hm : m.Pairwise (fun c d => c.1 < d.1)) : (Memory.consEntry a v m).Pairwise (fun c d => c.1 < d.1) := by
  unfold Memory.consEntry
  split
  · exact hm
  · exact List.pairwise_cons.2 ⟨h, hm⟩

theorem Memory.write_pairwise {m : Memory} (h : m.Pairwise (fun c d => c.1 < d.1)) (a : Nat) (v : Byte) :
    (m.write a v).Pairwise (fun c d => c.1 < d.1) := by
  induction m with
  | nil => exact Memory.consEntry_pairwise (by simp) h
  | cons c m ih =>
    obtain ⟨k, u⟩ := c
    obtain ⟨hk, hm⟩ := List.pairwise_cons.1 h
    unfold Memory.write
    split
    · rename_i hak
      refine Memory.consEntry_pairwise (fun c hc => ?_) h
      rcases List.mem_cons.1 hc with rfl | hc
      · exact hak
      · exact Nat.lt_trans hak (hk c hc)
    · split
      · rename_i hak; subst hak
        exact Memory.consEntry_pairwise (fun c hc => hk c hc) hm
      · refine List.pairwise_cons.2 ⟨fun c hc => ?_, ih hm⟩
        rcases Memory.mem_write hc with ⟨rfl, -⟩ | hc
        · show k < a; omega
        · exact hk c hc

/-- Writing one byte keeps the canonical form. -/
theorem Memory.write_wf {m : Memory} (h : m.wf) {a : Nat} (ha : a < 2 ^ 32) (v : Byte) : (m.write a v).wf := by
  refine ⟨Memory.write_pairwise h.1 a v, fun c hc => ?_⟩
  rcases Memory.mem_write hc with ⟨rfl, hv⟩ | hc
  · exact ⟨ha, hv⟩
  · exact h.2 c hc

/-- A canonical memory is determined by what its addresses read as: equal memories are equal data. -/
theorem Memory.ext_read {m n : Memory} (hm : m.wf) (hn : n.wf) (h : ∀ a, m.read a = n.read a) : m = n := by
  induction m generalizing n with
  | nil =>
    cases n with
    | nil => rfl
    | cons d n =>
      have := h d.1
      rw [Memory.read_nil, show d = (d.1, d.2) from rfl, Memory.read_cons, if_pos rfl] at this
      exact absurd this.symm (hn.2 d (by simp)).2
  | cons c m ih =>
    obtain ⟨a, u⟩ := c
    obtain ⟨ha, hm1⟩ := List.pairwise_cons.1 hm.1
    have hu : u ≠ Config.unlistedByte := (hm.2 (a, u) (by simp)).2
    cases n with
    | nil => exact absurd (by simpa using h a) hu
    | cons d n =>
      obtain ⟨b, v⟩ := d
      obtain ⟨hb, hn1⟩ := List.pairwise_cons.1 hn.1
      have hv : v ≠ Config.unlistedByte := (hn.2 (b, v) (by simp)).2
      have hab : a = b := by
        rcases Nat.lt_trichotomy a b with hlt | heq | hgt
        · have := h a
          rw [Memory.read_cons, if_pos rfl, Memory.read_cons, if_neg (by omega),
            Memory.read_of_lt fun c hc => Nat.lt_trans hlt (hb c hc)] at this
          exact absurd this hu
        · exact heq
        · have := h b
          rw [Memory.read_cons, if_neg (by omega), Memory.read_of_lt fun c hc => Nat.lt_trans hgt (ha c hc),
            Memory.read_cons, if_pos rfl] at this
          exact absurd this.symm hv
      subst hab
      have huv : u = v := by simpa using h a
      subst huv
      congr 1
      refine ih ⟨hm1, fun c hc => hm.2 c (by simp [hc])⟩ ⟨hn1, fun c hc => hn.2 c (by simp [hc])⟩ fun k => ?_
      have := h k
      rw [Memory.read_cons, Memory.read_cons] at this
      split at this
      · rename_i hk; subst hk
        rw [Memory.read_of_lt fun c hc => ha c hc, Memory.read_of_lt fun c hc => hb c hc]
      · exact this

/-! ## Address sets -/

@[simp] theorem AddrSet.mem_insert {d : AddrSet} {a b : Nat} : b ∈ d.insert a ↔ b = a ∨ b ∈ d := by
  induction d with
  | nil => simp [AddrSet.insert]
  | cons c d ih =>
    unfold AddrSet.insert
    split
    · simp
    · split
      · rename_i h; subst h; simp
      · simp only [List.mem_cons, ih]; tauto

theorem AddrSet.insert_pairwise {d : AddrSet} (h : d.Pairwise (· < ·)) (a : Nat) : (d.insert a).Pairwise (· < ·) := by
  induction d with
  | nil => simp [AddrSet.insert]
  | cons c d ih =>
    obtain ⟨hc, hd⟩ := List.pairwise_cons.1 h
    unfold AddrSet.insert
    split
    · rename_i hac
      refine List.pairwise_cons.2 ⟨fun b hb => ?_, h⟩
      rcases List.mem_cons.1 hb with rfl | hb
      · exact hac
      · exact Nat.lt_trans hac (hc b hb)
    · split
      · exact h
      · refine List.pairwise_cons.2 ⟨fun b hb => ?_, ih hd⟩
        rcases AddrSet.mem_insert.1 hb with rfl | hb
        · omega
        · exact hc b hb

theorem AddrSet.insert_wf {d : AddrSet} (h : d.wf) {a : Nat} (ha : a < 2 ^ 32) : (d.insert a).wf :=
  ⟨AddrSet.insert_pairwise h.1 a, fun b hb => (AddrSet.mem_insert.1 hb).elim (fun e => e ▸ ha) (h.2 b)⟩

@[simp] theorem AddrSet.mem_insertAll {d : AddrSet} {l : List Nat} {b : Nat} :
    b ∈ AddrSet.insertAll d l ↔ b ∈ l ∨ b ∈ d := by
  induction l generalizing d with
  | nil => simp [AddrSet.insertAll]
  | cons a l ih => simp only [AddrSet.insertAll, ih, AddrSet.mem_insert, List.mem_cons]; tauto

/-- Adding addresses keeps the canonical form. -/
theorem AddrSet.insertAll_wf {d : AddrSet} (h : d.wf) {l : List Nat} (hl : ∀ a ∈ l, a < 2 ^ 32) :
    (AddrSet.insertAll d l).wf := by
  induction l generalizing d with
  | nil => exact h
  | cons a l ih => exact ih (AddrSet.insert_wf h (hl a (by simp))) fun b hb => hl b (by simp [hb])

/-- Removing addresses keeps the canonical form. -/
theorem AddrSet.filter_wf {d : AddrSet} (h : d.wf) (p : Nat → Bool) : AddrSet.wf (d.filter p) :=
  ⟨h.1.filter p, fun a ha => h.2 a (List.mem_filter.1 ha).1⟩

/-! ## Several bytes -/

@[simp] theorem accessAddrs_length (a : Word) (n : Nat) : (accessAddrs a n).length = n := by
  induction n generalizing a with
  | zero => rfl
  | succ n ih => simp [accessAddrs, ih]

/-- The bytes of an access are `a + i` modulo 2^32 for `i` below `n` (R50). -/
theorem mem_accessAddrs {a : Word} {n b : Nat} :
    b ∈ accessAddrs a n ↔ ∃ i < n, b = (a + BitVec.ofNat 32 i).toNat := by
  induction n generalizing a with
  | zero => simp [accessAddrs]
  | succ n ih =>
    simp only [accessAddrs, List.mem_cons, ih]
    constructor
    · rintro (rfl | ⟨i, hi, rfl⟩)
      · exact ⟨0, by omega, by simp⟩
      · refine ⟨i + 1, by omega, ?_⟩
        rw [BitVec.add_assoc, show (1#32 + BitVec.ofNat 32 i) = BitVec.ofNat 32 (i + 1) from by
          rw [Nat.add_comm]; exact (BitVec.ofNat_add ..).symm]
    · rintro ⟨i, hi, rfl⟩
      cases i with
      | zero => exact .inl (by simp)
      | succ i =>
        refine .inr ⟨i, by omega, ?_⟩
        rw [BitVec.add_assoc, show (1#32 + BitVec.ofNat 32 i) = BitVec.ofNat 32 (i + 1) from by
          rw [Nat.add_comm]; exact (BitVec.ofNat_add ..).symm]

theorem accessAddrs_lt {a : Word} {n b : Nat} (h : b ∈ accessAddrs a n) : b < 2 ^ 32 := by
  obtain ⟨i, -, rfl⟩ := mem_accessAddrs.1 h
  exact (a + BitVec.ofNat 32 i).isLt

@[simp] theorem Memory.readBytes_length (m : Memory) (a : Word) (n : Nat) : (m.readBytes a n).length = n := by
  induction n generalizing a with
  | zero => rfl
  | succ n ih => simp [Memory.readBytes, ih]

/-- What a read of several bytes gives depends only on those bytes. -/
theorem Memory.readBytes_congr {m m' : Memory} {a : Word} {n : Nat}
    (h : ∀ b ∈ accessAddrs a n, m.read b = m'.read b) : m.readBytes a n = m'.readBytes a n := by
  induction n generalizing a with
  | zero => rfl
  | succ n ih =>
    simp only [Memory.readBytes]
    rw [h a.toNat (by simp [accessAddrs]), ih fun b hb => h b (by simp [accessAddrs, hb])]

theorem Memory.writeBytes_pairwise {m : Memory} (h : m.Pairwise (fun c d => c.1 < d.1)) (a : Word) (bs : List Byte) :
    (m.writeBytes a bs).Pairwise (fun c d => c.1 < d.1) := by
  induction bs generalizing m a with
  | nil => exact h
  | cons b bs ih => exact ih (Memory.write_pairwise h _ _) _

/-- Writing several bytes keeps the canonical form. -/
theorem Memory.writeBytes_wf {m : Memory} (h : m.wf) (a : Word) (bs : List Byte) : (m.writeBytes a bs).wf := by
  induction bs generalizing m a with
  | nil => exact h
  | cons b bs ih => exact ih (Memory.write_wf h a.isLt b) _

@[simp] theorem bytesOfWord_length (n : Nat) (v : Word) : (bytesOfWord n v).length = n := by
  induction n generalizing v with
  | zero => rfl
  | succ n ih => simp [bytesOfWord, ih]

/-- `MemWrite` keeps the canonical form. -/
theorem Memory.writeValue_wf {m : Memory} (h : m.wf) (a : Word) (n : Nat) (v : Word) : (m.writeValue a n v).wf :=
  Memory.writeBytes_wf h a _

/-- Bytes outside the access keep their values. -/
theorem Memory.read_writeBytes_of_not_mem {m : Memory} (h : m.Pairwise (fun c d => c.1 < d.1)) {a : Word}
    {bs : List Byte} {b : Nat} (hb : b ∉ accessAddrs a bs.length) : (m.writeBytes a bs).read b = m.read b := by
  induction bs generalizing m a with
  | nil => rfl
  | cons v bs ih =>
    simp only [List.length_cons, accessAddrs, List.mem_cons, not_or] at hb
    rw [Memory.writeBytes, ih (Memory.write_pairwise h _ _) hb.2, Memory.read_write h, if_neg hb.1]

theorem Memory.read_writeValue_of_not_mem {m : Memory} (h : m.wf) {a : Word} {n : Nat} {v : Word} {b : Nat}
    (hb : b ∉ accessAddrs a n) : (m.writeValue a n v).read b = m.read b :=
  Memory.read_writeBytes_of_not_mem h.1 (by simpa using hb)

/-- The address of byte `j` of an access is not that of a later byte, for accesses no longer than the address space. -/
theorem toNat_not_mem_accessAddrs_succ (a : Word) {n : Nat} (hn : n < 2 ^ 32) : a.toNat ∉ accessAddrs (a + 1#32) n := by
  intro hm
  obtain ⟨i, hi, he⟩ := mem_accessAddrs.1 hm
  rw [BitVec.toNat_add, BitVec.toNat_add, BitVec.toNat_ofNat, BitVec.toNat_ofNat] at he
  have := a.isLt
  omega

/-- Read after write of several bytes: byte `i` of the access holds byte `i` written (R51). -/
theorem Memory.read_writeBytes {m : Memory} (h : m.Pairwise (fun c d => c.1 < d.1)) {a : Word} {bs : List Byte}
    (hn : bs.length < 2 ^ 32) {i : Nat} (hi : i < bs.length) :
    (m.writeBytes a bs).read (a + BitVec.ofNat 32 i).toNat = bs[i] := by
  induction bs generalizing m a i with
  | nil => simp at hi
  | cons v bs ih =>
    simp only [List.length_cons] at hn hi
    cases i with
    | zero =>
      rw [Memory.writeBytes, show a + BitVec.ofNat 32 0 = a from by simp,
        Memory.read_writeBytes_of_not_mem (Memory.write_pairwise h _ _) (toNat_not_mem_accessAddrs_succ a (by omega)),
        Memory.read_write h, if_pos rfl]
      rfl
    | succ i =>
      have := ih (Memory.write_pairwise h a.toNat v) (a := a + 1#32) (by omega) (i := i) (by omega)
      rw [BitVec.add_assoc, show (1#32 + BitVec.ofNat 32 i) = BitVec.ofNat 32 (i + 1) from by
        rw [Nat.add_comm]; exact (BitVec.ofNat_add ..).symm] at this
      rw [Memory.writeBytes, this]
      rfl

theorem Memory.readBytes_getElem {m : Memory} {a : Word} {n i : Nat} (hi : i < n) :
    (m.readBytes a n)[i]'(by simpa using hi) = m.read (a + BitVec.ofNat 32 i).toNat := by
  induction n generalizing a i with
  | zero => omega
  | succ n ih =>
    cases i with
    | zero => simp [Memory.readBytes]
    | succ i =>
      have := ih (a := a + 1#32) (i := i) (by omega)
      rw [BitVec.add_assoc, show (1#32 + BitVec.ofNat 32 i) = BitVec.ofNat 32 (i + 1) from by
        rw [Nat.add_comm]; exact (BitVec.ofNat_add ..).symm] at this
      simpa [Memory.readBytes] using this

/-- Reading the bytes just written gives them back. -/
theorem Memory.readBytes_writeBytes {m : Memory} (h : m.Pairwise (fun c d => c.1 < d.1)) {a : Word} {bs : List Byte}
    (hn : bs.length < 2 ^ 32) : (m.writeBytes a bs).readBytes a bs.length = bs := by
  refine List.ext_getElem (by simp) fun i h1 h2 => ?_
  rw [Memory.readBytes_getElem h2, Memory.read_writeBytes h hn h2]

/-! ## Words and bytes -/

@[simp] theorem getLsbD_place {n : Nat} (m lo : Nat) (v : BitVec n) (i : Nat) :
    (place m lo v).getLsbD i = (decide (i < m) && (decide (lo ≤ i) && v.getLsbD (i - lo))) := by
  unfold place
  rw [BitVec.getLsbD_shiftLeft, BitVec.getLsbD_setWidth]
  by_cases h1 : i < m
  · by_cases h2 : i < lo
    · simp [h2]
    · have : i - lo < m := by omega
      simp [h1, h2, this, Nat.not_lt.1 h2]
  · simp [h1]

theorem getLsbD_wordOfBytes_cons (b : Byte) (bs : List Byte) (i : Nat) (hi : i < 32) :
    (wordOfBytes (b :: bs)).getLsbD i = if i < 8 then b.getLsbD i else (wordOfBytes bs).getLsbD (i - 8) := by
  simp only [wordOfBytes, BitVec.getLsbD_or, getLsbD_place, BitVec.getLsbD_shiftLeft]
  by_cases h : i < 8
  · simp [h, hi]
  · simp [h, hi, BitVec.getLsbD_of_ge b i (by omega)]

/-- The low `n` bytes of a word spell its low 8n bits. -/
theorem getLsbD_wordOfBytes_bytesOfWord (n : Nat) (v : Word) (i : Nat) (hi : i < 32) :
    (wordOfBytes (bytesOfWord n v)).getLsbD i = (decide (i < 8 * n) && v.getLsbD i) := by
  induction n generalizing v i with
  | zero => simp [bytesOfWord, wordOfBytes]
  | succ n ih =>
    rw [bytesOfWord, getLsbD_wordOfBytes_cons _ _ _ hi]
    by_cases h : i < 8
    · have : i < 8 * (n + 1) := by omega
      simp [h, this]
    · rw [if_neg h, ih _ _ (by omega), BitVec.getLsbD_ushiftRight, show 8 + (i - 8) = i from by omega,
        show decide (i - 8 < 8 * n) = decide (i < 8 * (n + 1)) from decide_eq_decide.2 (by omega)]

/-- A word's four bytes spell the word (R51, R52). -/
@[simp] theorem wordOfBytes_bytesOfWord (v : Word) : wordOfBytes (bytesOfWord 4 v) = v := by
  refine BitVec.eq_of_getLsbD_eq fun i hi => ?_
  rw [getLsbD_wordOfBytes_bytesOfWord 4 v i hi]
  simp [hi]

/-- `MemRead` after `MemWrite` of the same bytes gives the low bytes of the value stored (R51, R60 (a)). -/
theorem Memory.readValue_writeValue {m : Memory} (h : m.wf) (a : Word) {n : Nat} (hn : n ≤ 4) (v : Word) :
    (m.writeValue a n v).readValue a n = v.setWidth (8 * n) := by
  unfold Memory.readValue Memory.writeValue
  have := Memory.readBytes_writeBytes h.1 (a := a) (bs := bytesOfWord n v) (by simp; omega)
  rw [bytesOfWord_length] at this
  rw [this]
  refine BitVec.eq_of_getLsbD_eq fun i hi => ?_
  rw [BitVec.getLsbD_setWidth, BitVec.getLsbD_setWidth, getLsbD_wordOfBytes_bytesOfWord n v i (by omega)]
  simp [hi]

/-- What `MemRead` gives depends only on the bytes of the access. -/
theorem Memory.readValue_congr {m m' : Memory} {a : Word} {n : Nat}
    (h : ∀ b ∈ accessAddrs a n, m.read b = m'.read b) : m.readValue a n = m'.readValue a n := by
  unfold Memory.readValue; rw [Memory.readBytes_congr h]

/-! ## States -/

/-- The memory right after reset has the canonical form. -/
theorem State.reset_mem_wf : State.reset.mem.wf := by simp [State.reset, Memory.wf]

/-- A store keeps the canonical form of memory and of Dirty. -/
theorem State.stored_wf {s : State} (hm : s.mem.wf) (hd : s.dirty.wf) (ea : Word) (n : Nat) (v : Word) :
    (s.stored ea n v).mem.wf ∧ (s.stored ea n v).dirty.wf :=
  ⟨Memory.writeValue_wf hm ea n v, AddrSet.insertAll_wf hd fun _ => accessAddrs_lt⟩

/-- Placing a word keeps the canonical form of memory and of Dirty. -/
theorem State.placeWord_wf {s : State} (hm : s.mem.wf) (hd : s.dirty.wf) (w : Word) :
    (s.placeWord w).mem.wf ∧ (s.placeWord w).dirty.wf :=
  ⟨Memory.writeValue_wf hm s.pc 4 w, AddrSet.filter_wf hd _⟩

end Sys2Proof.Machine
end

