-- ==== Sys2Proof/Laws/Decode.lean ====
section
/-! SUPPORT. What each field of a word is that the encoder wrote, and that a word is made of its fields: the two halves of every
statement that decode and encode agree. -/

namespace Sys2Proof

open Sys2Proof.Machine (getLsbD_place)

/-! ## rType -/

@[simp] theorem Field.opcode_rType (f7 : BitVec 7) (rs2 rs1 : RegId) (f3 : BitVec 3) (rd : RegId) (op : BitVec 7) :
    Field.opcode (rType f7 rs2 rs1 f3 rd op) = op := by
  refine BitVec.eq_of_getLsbD_eq fun i hi => ?_
  simp only [Field.opcode, rType, BitVec.getLsbD_extractLsb', BitVec.getLsbD_or, getLsbD_place]
  interval_cases i <;> simp

@[simp] theorem Field.rd_rType (f7 : BitVec 7) (rs2 rs1 : RegId) (f3 : BitVec 3) (rd : RegId) (op : BitVec 7) :
    Field.rd (rType f7 rs2 rs1 f3 rd op) = rd := by
  refine BitVec.eq_of_getLsbD_eq fun i hi => ?_
  simp only [Field.rd, rType, BitVec.getLsbD_extractLsb', BitVec.getLsbD_or, getLsbD_place]
  interval_cases i <;> simp [BitVec.getLsbD_of_ge]

@[simp] theorem Field.funct3_rType (f7 : BitVec 7) (rs2 rs1 : RegId) (f3 : BitVec 3) (rd : RegId) (op : BitVec 7) :
    Field.funct3 (rType f7 rs2 rs1 f3 rd op) = f3 := by
  refine BitVec.eq_of_getLsbD_eq fun i hi => ?_
  simp only [Field.funct3, rType, BitVec.getLsbD_extractLsb', BitVec.getLsbD_or, getLsbD_place]
  interval_cases i <;> simp [BitVec.getLsbD_of_ge]

@[simp] theorem Field.rs1_rType (f7 : BitVec 7) (rs2 rs1 : RegId) (f3 : BitVec 3) (rd : RegId) (op : BitVec 7) :
    Field.rs1 (rType f7 rs2 rs1 f3 rd op) = rs1 := by
  refine BitVec.eq_of_getLsbD_eq fun i hi => ?_
  simp only [Field.rs1, rType, BitVec.getLsbD_extractLsb', BitVec.getLsbD_or, getLsbD_place]
  interval_cases i <;> simp [BitVec.getLsbD_of_ge]

@[simp] theorem Field.rs2_rType (f7 : BitVec 7) (rs2 rs1 : RegId) (f3 : BitVec 3) (rd : RegId) (op : BitVec 7) :
    Field.rs2 (rType f7 rs2 rs1 f3 rd op) = rs2 := by
  refine BitVec.eq_of_getLsbD_eq fun i hi => ?_
  simp only [Field.rs2, rType, BitVec.getLsbD_extractLsb', BitVec.getLsbD_or, getLsbD_place]
  interval_cases i <;> simp [BitVec.getLsbD_of_ge]

@[simp] theorem Field.funct7_rType (f7 : BitVec 7) (rs2 rs1 : RegId) (f3 : BitVec 3) (rd : RegId) (op : BitVec 7) :
    Field.funct7 (rType f7 rs2 rs1 f3 rd op) = f7 := by
  refine BitVec.eq_of_getLsbD_eq fun i hi => ?_
  simp only [Field.funct7, rType, BitVec.getLsbD_extractLsb', BitVec.getLsbD_or, getLsbD_place]
  interval_cases i <;> simp [BitVec.getLsbD_of_ge]

/-! ## iType -/

@[simp] theorem Field.opcode_iType (imm : BitVec 12) (rs1 : RegId) (f3 : BitVec 3) (rd : RegId) (op : BitVec 7) :
    Field.opcode (iType imm rs1 f3 rd op) = op := by
  refine BitVec.eq_of_getLsbD_eq fun i hi => ?_
  simp only [Field.opcode, iType, BitVec.getLsbD_extractLsb', BitVec.getLsbD_or, getLsbD_place]
  interval_cases i <;> simp

@[simp] theorem Field.rd_iType (imm : BitVec 12) (rs1 : RegId) (f3 : BitVec 3) (rd : RegId) (op : BitVec 7) :
    Field.rd (iType imm rs1 f3 rd op) = rd := by
  refine BitVec.eq_of_getLsbD_eq fun i hi => ?_
  simp only [Field.rd, iType, BitVec.getLsbD_extractLsb', BitVec.getLsbD_or, getLsbD_place]
  interval_cases i <;> simp [BitVec.getLsbD_of_ge]

@[simp] theorem Field.funct3_iType (imm : BitVec 12) (rs1 : RegId) (f3 : BitVec 3) (rd : RegId) (op : BitVec 7) :
    Field.funct3 (iType imm rs1 f3 rd op) = f3 := by
  refine BitVec.eq_of_getLsbD_eq fun i hi => ?_
  simp only [Field.funct3, iType, BitVec.getLsbD_extractLsb', BitVec.getLsbD_or, getLsbD_place]
  interval_cases i <;> simp [BitVec.getLsbD_of_ge]

@[simp] theorem Field.rs1_iType (imm : BitVec 12) (rs1 : RegId) (f3 : BitVec 3) (rd : RegId) (op : BitVec 7) :
    Field.rs1 (iType imm rs1 f3 rd op) = rs1 := by
  refine BitVec.eq_of_getLsbD_eq fun i hi => ?_
  simp only [Field.rs1, iType, BitVec.getLsbD_extractLsb', BitVec.getLsbD_or, getLsbD_place]
  interval_cases i <;> simp [BitVec.getLsbD_of_ge]

@[simp] theorem Field.iImm_iType (imm : BitVec 12) (rs1 : RegId) (f3 : BitVec 3) (rd : RegId) (op : BitVec 7) :
    Field.iImm (iType imm rs1 f3 rd op) = imm := by
  refine BitVec.eq_of_getLsbD_eq fun i hi => ?_
  simp only [Field.iImm, iType, BitVec.getLsbD_extractLsb', BitVec.getLsbD_or, getLsbD_place]
  interval_cases i <;> simp [BitVec.getLsbD_of_ge]

/-! ## sType -/

@[simp] theorem Field.opcode_sType (imm : BitVec 12) (rs2 rs1 : RegId) (f3 : BitVec 3) (op : BitVec 7) :
    Field.opcode (sType imm rs2 rs1 f3 op) = op := by
  refine BitVec.eq_of_getLsbD_eq fun i hi => ?_
  simp only [Field.opcode, sType, BitVec.getLsbD_extractLsb', BitVec.getLsbD_or, getLsbD_place]
  interval_cases i <;> simp

@[simp] theorem Field.funct3_sType (imm : BitVec 12) (rs2 rs1 : RegId) (f3 : BitVec 3) (op : BitVec 7) :
    Field.funct3 (sType imm rs2 rs1 f3 op) = f3 := by
  refine BitVec.eq_of_getLsbD_eq fun i hi => ?_
  simp only [Field.funct3, sType, BitVec.getLsbD_extractLsb', BitVec.getLsbD_or, getLsbD_place]
  interval_cases i <;> simp [BitVec.getLsbD_of_ge]

@[simp] theorem Field.rs1_sType (imm : BitVec 12) (rs2 rs1 : RegId) (f3 : BitVec 3) (op : BitVec 7) :
    Field.rs1 (sType imm rs2 rs1 f3 op) = rs1 := by
  refine BitVec.eq_of_getLsbD_eq fun i hi => ?_
  simp only [Field.rs1, sType, BitVec.getLsbD_extractLsb', BitVec.getLsbD_or, getLsbD_place]
  interval_cases i <;> simp [BitVec.getLsbD_of_ge]

@[simp] theorem Field.rs2_sType (imm : BitVec 12) (rs2 rs1 : RegId) (f3 : BitVec 3) (op : BitVec 7) :
    Field.rs2 (sType imm rs2 rs1 f3 op) = rs2 := by
  refine BitVec.eq_of_getLsbD_eq fun i hi => ?_
  simp only [Field.rs2, sType, BitVec.getLsbD_extractLsb', BitVec.getLsbD_or, getLsbD_place]
  interval_cases i <;> simp [BitVec.getLsbD_of_ge]

@[simp] theorem Field.sImm_sType (imm : BitVec 12) (rs2 rs1 : RegId) (f3 : BitVec 3) (op : BitVec 7) :
    Field.sImm (sType imm rs2 rs1 f3 op) = imm := by
  refine BitVec.eq_of_getLsbD_eq fun i hi => ?_
  simp only [Field.sImm, sType, BitVec.getLsbD_extractLsb', BitVec.getLsbD_or, getLsbD_place]
  interval_cases i <;> simp [BitVec.getLsbD_of_ge]

/-! ## bType -/

@[simp] theorem Field.opcode_bType (imm : BitVec 13) (rs2 rs1 : RegId) (f3 : BitVec 3) (op : BitVec 7) :
    Field.opcode (bType imm rs2 rs1 f3 op) = op := by
  refine BitVec.eq_of_getLsbD_eq fun i hi => ?_
  simp only [Field.opcode, bType, BitVec.getLsbD_extractLsb', BitVec.getLsbD_or, getLsbD_place]
  interval_cases i <;> simp

@[simp] theorem Field.funct3_bType (imm : BitVec 13) (rs2 rs1 : RegId) (f3 : BitVec 3) (op : BitVec 7) :
    Field.funct3 (bType imm rs2 rs1 f3 op) = f3 := by
  refine BitVec.eq_of_getLsbD_eq fun i hi => ?_
  simp only [Field.funct3, bType, BitVec.getLsbD_extractLsb', BitVec.getLsbD_or, getLsbD_place]
  interval_cases i <;> simp [BitVec.getLsbD_of_ge]

@[simp] theorem Field.rs1_bType (imm : BitVec 13) (rs2 rs1 : RegId) (f3 : BitVec 3) (op : BitVec 7) :
    Field.rs1 (bType imm rs2 rs1 f3 op) = rs1 := by
  refine BitVec.eq_of_getLsbD_eq fun i hi => ?_
  simp only [Field.rs1, bType, BitVec.getLsbD_extractLsb', BitVec.getLsbD_or, getLsbD_place]
  interval_cases i <;> simp [BitVec.getLsbD_of_ge]

@[simp] theorem Field.rs2_bType (imm : BitVec 13) (rs2 rs1 : RegId) (f3 : BitVec 3) (op : BitVec 7) :
    Field.rs2 (bType imm rs2 rs1 f3 op) = rs2 := by
  refine BitVec.eq_of_getLsbD_eq fun i hi => ?_
  simp only [Field.rs2, bType, BitVec.getLsbD_extractLsb', BitVec.getLsbD_or, getLsbD_place]
  interval_cases i <;> simp [BitVec.getLsbD_of_ge]

theorem Field.bImm_bType (imm : BitVec 13) (rs2 rs1 : RegId) (f3 : BitVec 3) (op : BitVec 7) (h : imm.getLsbD 0 = false) :
    Field.bImm (bType imm rs2 rs1 f3 op) = imm := by
  have h0 : imm[0] = false := by simpa using h
  refine BitVec.eq_of_getLsbD_eq fun i hi => ?_
  simp only [Field.bImm, bType, BitVec.getLsbD_extractLsb', BitVec.getLsbD_or, getLsbD_place]
  interval_cases i <;> simp [BitVec.getLsbD_of_ge, h0]

/-! ## uType -/

@[simp] theorem Field.opcode_uType (imm : BitVec 20) (rd : RegId) (op : BitVec 7) :
    Field.opcode (uType imm rd op) = op := by
  refine BitVec.eq_of_getLsbD_eq fun i hi => ?_
  simp only [Field.opcode, uType, BitVec.getLsbD_extractLsb', BitVec.getLsbD_or, getLsbD_place]
  interval_cases i <;> simp

@[simp] theorem Field.rd_uType (imm : BitVec 20) (rd : RegId) (op : BitVec 7) :
    Field.rd (uType imm rd op) = rd := by
  refine BitVec.eq_of_getLsbD_eq fun i hi => ?_
  simp only [Field.rd, uType, BitVec.getLsbD_extractLsb', BitVec.getLsbD_or, getLsbD_place]
  interval_cases i <;> simp [BitVec.getLsbD_of_ge]

@[simp] theorem Field.uImm_uType (imm : BitVec 20) (rd : RegId) (op : BitVec 7) :
    Field.uImm (uType imm rd op) = imm := by
  refine BitVec.eq_of_getLsbD_eq fun i hi => ?_
  simp only [Field.uImm, uType, BitVec.getLsbD_extractLsb', BitVec.getLsbD_or, getLsbD_place]
  interval_cases i <;> simp [BitVec.getLsbD_of_ge]

/-! ## jType -/

@[simp] theorem Field.opcode_jType (imm : BitVec 21) (rd : RegId) (op : BitVec 7) :
    Field.opcode (jType imm rd op) = op := by
  refine BitVec.eq_of_getLsbD_eq fun i hi => ?_
  simp only [Field.opcode, jType, BitVec.getLsbD_extractLsb', BitVec.getLsbD_or, getLsbD_place]
  interval_cases i <;> simp

@[simp] theorem Field.rd_jType (imm : BitVec 21) (rd : RegId) (op : BitVec 7) :
    Field.rd (jType imm rd op) = rd := by
  refine BitVec.eq_of_getLsbD_eq fun i hi => ?_
  simp only [Field.rd, jType, BitVec.getLsbD_extractLsb', BitVec.getLsbD_or, getLsbD_place]
  interval_cases i <;> simp [BitVec.getLsbD_of_ge]

theorem Field.jImm_jType (imm : BitVec 21) (rd : RegId) (op : BitVec 7) (h : imm.getLsbD 0 = false) :
    Field.jImm (jType imm rd op) = imm := by
  have h0 : imm[0] = false := by simpa using h
  refine BitVec.eq_of_getLsbD_eq fun i hi => ?_
  simp only [Field.jImm, jType, BitVec.getLsbD_extractLsb', BitVec.getLsbD_or, getLsbD_place]
  interval_cases i <;> simp [BitVec.getLsbD_of_ge, h0]

/-! ## fenceType -/

@[simp] theorem Field.opcode_fenceType (pred succ : BitVec 4) (f3 : BitVec 3) :
    Field.opcode (fenceType pred succ f3) = 0b0001111#7 := by
  refine BitVec.eq_of_getLsbD_eq fun i hi => ?_
  simp only [Field.opcode, fenceType, BitVec.getLsbD_extractLsb', BitVec.getLsbD_or, getLsbD_place]
  interval_cases i <;> simp

@[simp] theorem Field.rd_fenceType (pred succ : BitVec 4) (f3 : BitVec 3) :
    Field.rd (fenceType pred succ f3) = 0#5 := by
  refine BitVec.eq_of_getLsbD_eq fun i hi => ?_
  simp only [Field.rd, fenceType, BitVec.getLsbD_extractLsb', BitVec.getLsbD_or, getLsbD_place]
  interval_cases i <;> simp [BitVec.getLsbD_of_ge]

@[simp] theorem Field.funct3_fenceType (pred succ : BitVec 4) (f3 : BitVec 3) :
    Field.funct3 (fenceType pred succ f3) = f3 := by
  refine BitVec.eq_of_getLsbD_eq fun i hi => ?_
  simp only [Field.funct3, fenceType, BitVec.getLsbD_extractLsb', BitVec.getLsbD_or, getLsbD_place]
  interval_cases i <;> simp [BitVec.getLsbD_of_ge]

@[simp] theorem Field.rs1_fenceType (pred succ : BitVec 4) (f3 : BitVec 3) :
    Field.rs1 (fenceType pred succ f3) = 0#5 := by
  refine BitVec.eq_of_getLsbD_eq fun i hi => ?_
  simp only [Field.rs1, fenceType, BitVec.getLsbD_extractLsb', BitVec.getLsbD_or, getLsbD_place]
  interval_cases i <;> simp [BitVec.getLsbD_of_ge]

@[simp] theorem Field.succ_fenceType (pred succ : BitVec 4) (f3 : BitVec 3) :
    Field.succ (fenceType pred succ f3) = succ := by
  refine BitVec.eq_of_getLsbD_eq fun i hi => ?_
  simp only [Field.succ, fenceType, BitVec.getLsbD_extractLsb', BitVec.getLsbD_or, getLsbD_place]
  interval_cases i <;> simp [BitVec.getLsbD_of_ge]

@[simp] theorem Field.pred_fenceType (pred succ : BitVec 4) (f3 : BitVec 3) :
    Field.pred (fenceType pred succ f3) = pred := by
  refine BitVec.eq_of_getLsbD_eq fun i hi => ?_
  simp only [Field.pred, fenceType, BitVec.getLsbD_extractLsb', BitVec.getLsbD_or, getLsbD_place]
  interval_cases i <;> simp [BitVec.getLsbD_of_ge]

@[simp] theorem Field.fm_fenceType (pred succ : BitVec 4) (f3 : BitVec 3) :
    Field.fm (fenceType pred succ f3) = 0#4 := by
  refine BitVec.eq_of_getLsbD_eq fun i hi => ?_
  simp only [Field.fm, fenceType, BitVec.getLsbD_extractLsb', BitVec.getLsbD_or, getLsbD_place]
  interval_cases i <;> simp [BitVec.getLsbD_of_ge]

/-! ## shift64Type -/

@[simp] theorem Field.opcode_shift64Type (f6 shamt : BitVec 6) (rs1 : RegId) (f3 : BitVec 3) (rd : RegId) (op : BitVec 7) :
    Field.opcode (shift64Type f6 shamt rs1 f3 rd op) = op := by
  refine BitVec.eq_of_getLsbD_eq fun i hi => ?_
  simp only [Field.opcode, shift64Type, BitVec.getLsbD_extractLsb', BitVec.getLsbD_or, getLsbD_place]
  interval_cases i <;> simp

@[simp] theorem Field.rd_shift64Type (f6 shamt : BitVec 6) (rs1 : RegId) (f3 : BitVec 3) (rd : RegId) (op : BitVec 7) :
    Field.rd (shift64Type f6 shamt rs1 f3 rd op) = rd := by
  refine BitVec.eq_of_getLsbD_eq fun i hi => ?_
  simp only [Field.rd, shift64Type, BitVec.getLsbD_extractLsb', BitVec.getLsbD_or, getLsbD_place]
  interval_cases i <;> simp [BitVec.getLsbD_of_ge]

@[simp] theorem Field.funct3_shift64Type (f6 shamt : BitVec 6) (rs1 : RegId) (f3 : BitVec 3) (rd : RegId) (op : BitVec 7) :
    Field.funct3 (shift64Type f6 shamt rs1 f3 rd op) = f3 := by
  refine BitVec.eq_of_getLsbD_eq fun i hi => ?_
  simp only [Field.funct3, shift64Type, BitVec.getLsbD_extractLsb', BitVec.getLsbD_or, getLsbD_place]
  interval_cases i <;> simp [BitVec.getLsbD_of_ge]

@[simp] theorem Field.rs1_shift64Type (f6 shamt : BitVec 6) (rs1 : RegId) (f3 : BitVec 3) (rd : RegId) (op : BitVec 7) :
    Field.rs1 (shift64Type f6 shamt rs1 f3 rd op) = rs1 := by
  refine BitVec.eq_of_getLsbD_eq fun i hi => ?_
  simp only [Field.rs1, shift64Type, BitVec.getLsbD_extractLsb', BitVec.getLsbD_or, getLsbD_place]
  interval_cases i <;> simp [BitVec.getLsbD_of_ge]

@[simp] theorem Field.shamt6_shift64Type (f6 shamt : BitVec 6) (rs1 : RegId) (f3 : BitVec 3) (rd : RegId) (op : BitVec 7) :
    Field.shamt6 (shift64Type f6 shamt rs1 f3 rd op) = shamt := by
  refine BitVec.eq_of_getLsbD_eq fun i hi => ?_
  simp only [Field.shamt6, shift64Type, BitVec.getLsbD_extractLsb', BitVec.getLsbD_or, getLsbD_place]
  interval_cases i <;> simp [BitVec.getLsbD_of_ge]

@[simp] theorem Field.funct7_shift64Type (f6 shamt : BitVec 6) (rs1 : RegId) (f3 : BitVec 3) (rd : RegId) (op : BitVec 7) :
    Field.funct7 (shift64Type f6 shamt rs1 f3 rd op) = place 7 1 f6 ||| place 7 0 (shamt.extractLsb' 5 1) := by
  refine BitVec.eq_of_getLsbD_eq fun i hi => ?_
  simp only [Field.funct7, shift64Type, BitVec.getLsbD_extractLsb', BitVec.getLsbD_or, getLsbD_place]
  interval_cases i <;> simp [BitVec.getLsbD_of_ge]

/-! ## amoType -/

@[simp] theorem Field.opcode_amoType (f5 : BitVec 5) (aq rl : BitVec 1) (rs2 rs1 : RegId) (f3 : BitVec 3) (rd : RegId) (op : BitVec 7) :
    Field.opcode (amoType f5 aq rl rs2 rs1 f3 rd op) = op := by
  refine BitVec.eq_of_getLsbD_eq fun i hi => ?_
  simp only [Field.opcode, amoType, BitVec.getLsbD_extractLsb', BitVec.getLsbD_or, getLsbD_place]
  interval_cases i <;> simp

@[simp] theorem Field.rd_amoType (f5 : BitVec 5) (aq rl : BitVec 1) (rs2 rs1 : RegId) (f3 : BitVec 3) (rd : RegId) (op : BitVec 7) :
    Field.rd (amoType f5 aq rl rs2 rs1 f3 rd op) = rd := by
  refine BitVec.eq_of_getLsbD_eq fun i hi => ?_
  simp only [Field.rd, amoType, BitVec.getLsbD_extractLsb', BitVec.getLsbD_or, getLsbD_place]
  interval_cases i <;> simp [BitVec.getLsbD_of_ge]

@[simp] theorem Field.funct3_amoType (f5 : BitVec 5) (aq rl : BitVec 1) (rs2 rs1 : RegId) (f3 : BitVec 3) (rd : RegId) (op : BitVec 7) :
    Field.funct3 (amoType f5 aq rl rs2 rs1 f3 rd op) = f3 := by
  refine BitVec.eq_of_getLsbD_eq fun i hi => ?_
  simp only [Field.funct3, amoType, BitVec.getLsbD_extractLsb', BitVec.getLsbD_or, getLsbD_place]
  interval_cases i <;> simp [BitVec.getLsbD_of_ge]

@[simp] theorem Field.rs1_amoType (f5 : BitVec 5) (aq rl : BitVec 1) (rs2 rs1 : RegId) (f3 : BitVec 3) (rd : RegId) (op : BitVec 7) :
    Field.rs1 (amoType f5 aq rl rs2 rs1 f3 rd op) = rs1 := by
  refine BitVec.eq_of_getLsbD_eq fun i hi => ?_
  simp only [Field.rs1, amoType, BitVec.getLsbD_extractLsb', BitVec.getLsbD_or, getLsbD_place]
  interval_cases i <;> simp [BitVec.getLsbD_of_ge]

@[simp] theorem Field.rs2_amoType (f5 : BitVec 5) (aq rl : BitVec 1) (rs2 rs1 : RegId) (f3 : BitVec 3) (rd : RegId) (op : BitVec 7) :
    Field.rs2 (amoType f5 aq rl rs2 rs1 f3 rd op) = rs2 := by
  refine BitVec.eq_of_getLsbD_eq fun i hi => ?_
  simp only [Field.rs2, amoType, BitVec.getLsbD_extractLsb', BitVec.getLsbD_or, getLsbD_place]
  interval_cases i <;> simp [BitVec.getLsbD_of_ge]

@[simp] theorem Field.funct5_amoType (f5 : BitVec 5) (aq rl : BitVec 1) (rs2 rs1 : RegId) (f3 : BitVec 3) (rd : RegId) (op : BitVec 7) :
    Field.funct5 (amoType f5 aq rl rs2 rs1 f3 rd op) = f5 := by
  refine BitVec.eq_of_getLsbD_eq fun i hi => ?_
  simp only [Field.funct5, amoType, BitVec.getLsbD_extractLsb', BitVec.getLsbD_or, getLsbD_place]
  interval_cases i <;> simp [BitVec.getLsbD_of_ge]

@[simp] theorem Field.aq_amoType (f5 : BitVec 5) (aq rl : BitVec 1) (rs2 rs1 : RegId) (f3 : BitVec 3) (rd : RegId) (op : BitVec 7) :
    Field.aq (amoType f5 aq rl rs2 rs1 f3 rd op) = aq := by
  refine BitVec.eq_of_getLsbD_eq fun i hi => ?_
  simp only [Field.aq, amoType, BitVec.getLsbD_extractLsb', BitVec.getLsbD_or, getLsbD_place]
  interval_cases i; simp [BitVec.getLsbD_of_ge]

@[simp] theorem Field.rl_amoType (f5 : BitVec 5) (aq rl : BitVec 1) (rs2 rs1 : RegId) (f3 : BitVec 3) (rd : RegId) (op : BitVec 7) :
    Field.rl (amoType f5 aq rl rs2 rs1 f3 rd op) = rl := by
  refine BitVec.eq_of_getLsbD_eq fun i hi => ?_
  simp only [Field.rl, amoType, BitVec.getLsbD_extractLsb', BitVec.getLsbD_or, getLsbD_place]
  interval_cases i; simp [BitVec.getLsbD_of_ge]

/-! ## r4Type -/

@[simp] theorem Field.opcode_r4Type (rs3 : RegId) (f2 : BitVec 2) (rs2 rs1 : RegId) (f3 : BitVec 3) (rd : RegId) (op : BitVec 7) :
    Field.opcode (r4Type rs3 f2 rs2 rs1 f3 rd op) = op := by
  refine BitVec.eq_of_getLsbD_eq fun i hi => ?_
  simp only [Field.opcode, r4Type, BitVec.getLsbD_extractLsb', BitVec.getLsbD_or, getLsbD_place]
  interval_cases i <;> simp

@[simp] theorem Field.rd_r4Type (rs3 : RegId) (f2 : BitVec 2) (rs2 rs1 : RegId) (f3 : BitVec 3) (rd : RegId) (op : BitVec 7) :
    Field.rd (r4Type rs3 f2 rs2 rs1 f3 rd op) = rd := by
  refine BitVec.eq_of_getLsbD_eq fun i hi => ?_
  simp only [Field.rd, r4Type, BitVec.getLsbD_extractLsb', BitVec.getLsbD_or, getLsbD_place]
  interval_cases i <;> simp [BitVec.getLsbD_of_ge]

@[simp] theorem Field.funct3_r4Type (rs3 : RegId) (f2 : BitVec 2) (rs2 rs1 : RegId) (f3 : BitVec 3) (rd : RegId) (op : BitVec 7) :
    Field.funct3 (r4Type rs3 f2 rs2 rs1 f3 rd op) = f3 := by
  refine BitVec.eq_of_getLsbD_eq fun i hi => ?_
  simp only [Field.funct3, r4Type, BitVec.getLsbD_extractLsb', BitVec.getLsbD_or, getLsbD_place]
  interval_cases i <;> simp [BitVec.getLsbD_of_ge]

@[simp] theorem Field.rs1_r4Type (rs3 : RegId) (f2 : BitVec 2) (rs2 rs1 : RegId) (f3 : BitVec 3) (rd : RegId) (op : BitVec 7) :
    Field.rs1 (r4Type rs3 f2 rs2 rs1 f3 rd op) = rs1 := by
  refine BitVec.eq_of_getLsbD_eq fun i hi => ?_
  simp only [Field.rs1, r4Type, BitVec.getLsbD_extractLsb', BitVec.getLsbD_or, getLsbD_place]
  interval_cases i <;> simp [BitVec.getLsbD_of_ge]

@[simp] theorem Field.rs2_r4Type (rs3 : RegId) (f2 : BitVec 2) (rs2 rs1 : RegId) (f3 : BitVec 3) (rd : RegId) (op : BitVec 7) :
    Field.rs2 (r4Type rs3 f2 rs2 rs1 f3 rd op) = rs2 := by
  refine BitVec.eq_of_getLsbD_eq fun i hi => ?_
  simp only [Field.rs2, r4Type, BitVec.getLsbD_extractLsb', BitVec.getLsbD_or, getLsbD_place]
  interval_cases i <;> simp [BitVec.getLsbD_of_ge]

@[simp] theorem Field.funct5_r4Type (rs3 : RegId) (f2 : BitVec 2) (rs2 rs1 : RegId) (f3 : BitVec 3) (rd : RegId) (op : BitVec 7) :
    Field.funct5 (r4Type rs3 f2 rs2 rs1 f3 rd op) = rs3 := by
  refine BitVec.eq_of_getLsbD_eq fun i hi => ?_
  simp only [Field.funct5, r4Type, BitVec.getLsbD_extractLsb', BitVec.getLsbD_or, getLsbD_place]
  interval_cases i <;> simp [BitVec.getLsbD_of_ge]

@[simp] theorem Field.funct2_r4Type (rs3 : RegId) (f2 : BitVec 2) (rs2 rs1 : RegId) (f3 : BitVec 3) (rd : RegId) (op : BitVec 7) :
    Field.funct2 (r4Type rs3 f2 rs2 rs1 f3 rd op) = f2 := by
  refine BitVec.eq_of_getLsbD_eq fun i hi => ?_
  simp only [Field.funct2, r4Type, BitVec.getLsbD_extractLsb', BitVec.getLsbD_or, getLsbD_place]
  interval_cases i <;> simp [BitVec.getLsbD_of_ge]

/-! ## A word is made of its fields -/

theorem rType_fields (w : Word) :
    rType (Field.funct7 w) (Field.rs2 w) (Field.rs1 w) (Field.funct3 w) (Field.rd w) (Field.opcode w) = w := by
  refine BitVec.eq_of_getLsbD_eq fun i hi => ?_
  simp only [rType, Field.funct7, Field.rs2, Field.rs1, Field.funct3, Field.rd, Field.opcode, BitVec.getLsbD_extractLsb', BitVec.getLsbD_or,
    getLsbD_place]
  interval_cases i <;> simp

theorem iType_fields (w : Word) :
    iType (Field.iImm w) (Field.rs1 w) (Field.funct3 w) (Field.rd w) (Field.opcode w) = w := by
  refine BitVec.eq_of_getLsbD_eq fun i hi => ?_
  simp only [iType, Field.iImm, Field.rs1, Field.funct3, Field.rd, Field.opcode, BitVec.getLsbD_extractLsb', BitVec.getLsbD_or,
    getLsbD_place]
  interval_cases i <;> simp

theorem sType_fields (w : Word) :
    sType (Field.sImm w) (Field.rs2 w) (Field.rs1 w) (Field.funct3 w) (Field.opcode w) = w := by
  refine BitVec.eq_of_getLsbD_eq fun i hi => ?_
  simp only [sType, Field.sImm, Field.rs2, Field.rs1, Field.funct3, Field.opcode, BitVec.getLsbD_extractLsb', BitVec.getLsbD_or,
    getLsbD_place]
  interval_cases i <;> simp

theorem bType_fields (w : Word) :
    bType (Field.bImm w) (Field.rs2 w) (Field.rs1 w) (Field.funct3 w) (Field.opcode w) = w := by
  refine BitVec.eq_of_getLsbD_eq fun i hi => ?_
  simp only [bType, Field.bImm, Field.rs2, Field.rs1, Field.funct3, Field.opcode, BitVec.getLsbD_extractLsb', BitVec.getLsbD_or,
    getLsbD_place]
  interval_cases i <;> simp

theorem uType_fields (w : Word) :
    uType (Field.uImm w) (Field.rd w) (Field.opcode w) = w := by
  refine BitVec.eq_of_getLsbD_eq fun i hi => ?_
  simp only [uType, Field.uImm, Field.rd, Field.opcode, BitVec.getLsbD_extractLsb', BitVec.getLsbD_or,
    getLsbD_place]
  interval_cases i <;> simp

theorem jType_fields (w : Word) :
    jType (Field.jImm w) (Field.rd w) (Field.opcode w) = w := by
  refine BitVec.eq_of_getLsbD_eq fun i hi => ?_
  simp only [jType, Field.jImm, Field.rd, Field.opcode, BitVec.getLsbD_extractLsb', BitVec.getLsbD_or,
    getLsbD_place]
  interval_cases i <;> simp

theorem shift64Type_fields (w : Word) :
    shift64Type (Field.funct6 w) (Field.shamt6 w) (Field.rs1 w) (Field.funct3 w) (Field.rd w) (Field.opcode w) = w := by
  refine BitVec.eq_of_getLsbD_eq fun i hi => ?_
  simp only [shift64Type, Field.funct6, Field.shamt6, Field.rs1, Field.funct3, Field.rd, Field.opcode, BitVec.getLsbD_extractLsb', BitVec.getLsbD_or,
    getLsbD_place]
  interval_cases i <;> simp

theorem amoType_fields (w : Word) :
    amoType (Field.funct5 w) (Field.aq w) (Field.rl w) (Field.rs2 w) (Field.rs1 w) (Field.funct3 w) (Field.rd w) (Field.opcode w) = w := by
  refine BitVec.eq_of_getLsbD_eq fun i hi => ?_
  simp only [amoType, Field.funct5, Field.aq, Field.rl, Field.rs2, Field.rs1, Field.funct3, Field.rd, Field.opcode, BitVec.getLsbD_extractLsb', BitVec.getLsbD_or,
    getLsbD_place]
  interval_cases i <;> simp

theorem r4Type_fields (w : Word) :
    r4Type (Field.funct5 w) (Field.funct2 w) (Field.rs2 w) (Field.rs1 w) (Field.funct3 w) (Field.rd w) (Field.opcode w) = w := by
  refine BitVec.eq_of_getLsbD_eq fun i hi => ?_
  simp only [r4Type, Field.funct5, Field.funct2, Field.rs2, Field.rs1, Field.funct3, Field.rd, Field.opcode, BitVec.getLsbD_extractLsb', BitVec.getLsbD_or,
    getLsbD_place]
  interval_cases i <;> simp

/-! ## The formats as the tables print them: fields side by side, the most significant first (R83 to R88, R96) -/

theorem append_eq_rType (f7 : BitVec 7) (rs2 rs1 : RegId) (f3 : BitVec 3) (rd : RegId) (op : BitVec 7) :
    (f7 ++ rs2 ++ rs1 ++ f3 ++ rd ++ op : Word) = rType f7 rs2 rs1 f3 rd op := by
  refine BitVec.eq_of_getLsbD_eq fun i hi => ?_
  simp only [rType, BitVec.getLsbD_append, BitVec.getLsbD_or, getLsbD_place]
  interval_cases i <;> simp [BitVec.getLsbD_of_ge]

theorem append_eq_iType (imm : BitVec 12) (rs1 : RegId) (f3 : BitVec 3) (rd : RegId) (op : BitVec 7) :
    (imm ++ rs1 ++ f3 ++ rd ++ op : Word) = iType imm rs1 f3 rd op := by
  refine BitVec.eq_of_getLsbD_eq fun i hi => ?_
  simp only [iType, BitVec.getLsbD_append, BitVec.getLsbD_or, getLsbD_place]
  interval_cases i <;> simp [BitVec.getLsbD_of_ge]

theorem append_eq_sType (imm : BitVec 12) (rs2 rs1 : RegId) (f3 : BitVec 3) (op : BitVec 7) :
    (imm.extractLsb' 5 7 ++ rs2 ++ rs1 ++ f3 ++ imm.extractLsb' 0 5 ++ op : Word) = sType imm rs2 rs1 f3 op := by
  refine BitVec.eq_of_getLsbD_eq fun i hi => ?_
  simp only [sType, BitVec.getLsbD_append, BitVec.getLsbD_extractLsb', BitVec.getLsbD_or, getLsbD_place]
  interval_cases i <;> simp [BitVec.getLsbD_of_ge]

theorem append_eq_bType (imm : BitVec 13) (rs2 rs1 : RegId) (f3 : BitVec 3) (op : BitVec 7) :
    (imm.extractLsb' 12 1 ++ imm.extractLsb' 5 6 ++ rs2 ++ rs1 ++ f3 ++ imm.extractLsb' 1 4 ++ imm.extractLsb' 11 1 ++ op : Word) = bType imm rs2 rs1 f3 op := by
  refine BitVec.eq_of_getLsbD_eq fun i hi => ?_
  simp only [bType, BitVec.getLsbD_append, BitVec.getLsbD_extractLsb', BitVec.getLsbD_or, getLsbD_place]
  interval_cases i <;> simp [BitVec.getLsbD_of_ge]

theorem append_eq_uType (imm : BitVec 20) (rd : RegId) (op : BitVec 7) :
    (imm ++ rd ++ op : Word) = uType imm rd op := by
  refine BitVec.eq_of_getLsbD_eq fun i hi => ?_
  simp only [uType, BitVec.getLsbD_append, BitVec.getLsbD_or, getLsbD_place]
  interval_cases i <;> simp [BitVec.getLsbD_of_ge]

theorem append_eq_jType (imm : BitVec 21) (rd : RegId) (op : BitVec 7) :
    (imm.extractLsb' 20 1 ++ imm.extractLsb' 1 10 ++ imm.extractLsb' 11 1 ++ imm.extractLsb' 12 8 ++ rd ++ op : Word) = jType imm rd op := by
  refine BitVec.eq_of_getLsbD_eq fun i hi => ?_
  simp only [jType, BitVec.getLsbD_append, BitVec.getLsbD_extractLsb', BitVec.getLsbD_or, getLsbD_place]
  interval_cases i <;> simp [BitVec.getLsbD_of_ge]

theorem append_eq_fenceType (pred succ : BitVec 4) (f3 : BitVec 3) :
    (0#4 ++ pred ++ succ ++ 0#5 ++ f3 ++ 0#5 ++ 0b0001111#7 : Word) = fenceType pred succ f3 := by
  refine BitVec.eq_of_getLsbD_eq fun i hi => ?_
  simp only [fenceType, BitVec.getLsbD_append, BitVec.getLsbD_or, getLsbD_place]
  interval_cases i <;> simp [BitVec.getLsbD_of_ge]

/-- FENCE's word is made of its fields where those printed as zeros are zero (R96, R102). -/
theorem fenceType_fields (w : Word) (hfm : Field.fm w = 0#4) (hrs1 : Field.rs1 w = 0#5) (hrd : Field.rd w = 0#5)
    (hop : Field.opcode w = 0b0001111#7) : fenceType (Field.pred w) (Field.succ w) (Field.funct3 w) = w := by
  have bit : ∀ {n : Nat} {f g : BitVec n}, f = g → ∀ k, f.getLsbD k = g.getLsbD k := fun h k => by rw [h]
  refine BitVec.eq_of_getLsbD_eq fun i hi => ?_
  have h1 := bit hfm (i - 28)
  have h2 := bit hrs1 (i - 15)
  have h3 := bit hrd (i - 7)
  have h4 := bit hop i
  simp only [Field.fm, Field.rs1, Field.rd, Field.opcode, BitVec.getLsbD_extractLsb'] at h1 h2 h3 h4
  simp only [fenceType, Field.pred, Field.succ, Field.funct3, BitVec.getLsbD_extractLsb', BitVec.getLsbD_or,
    getLsbD_place]
  interval_cases i <;> simp_all

/-- The select bits of the RV64I shift rows: inst[31:26] and inst[25] make inst[31:25] (R270). -/
theorem funct7_eq_funct6 (w : Word) : Field.funct7 w = place 7 1 (Field.funct6 w) ||| place 7 0 (w.extractLsb' 25 1) := by
  refine BitVec.eq_of_getLsbD_eq fun i hi => ?_
  simp only [Field.funct7, Field.funct6, BitVec.getLsbD_extractLsb', BitVec.getLsbD_or, getLsbD_place]
  interval_cases i <;> simp

/-- Branch and JAL offsets read from a word are even (R91, R93). -/
@[simp] theorem branchOffsetOk_bImm (w : Word) : branchOffsetOk (Field.bImm w) = true := by
  simp only [branchOffsetOk, Field.bImm, BitVec.getLsbD_or, getLsbD_place]; simp

@[simp] theorem jumpOffsetOk_jImm (w : Word) : jumpOffsetOk (Field.jImm w) = true := by
  simp only [jumpOffsetOk, Field.jImm, BitVec.getLsbD_or, getLsbD_place]; simp

/-- inst[25] is bit 5 of the 6-bit shift amount (R270). -/
theorem rv64ShamtOk_shamt6 (w : Word) : rv64ShamtOk (Field.shamt6 w) = w.getLsbD 25 := by
  simp [rv64ShamtOk, Field.shamt6]

/-- With bit 5 of the shift amount set, inst[31:25] of an RV64I shift row is its inst[31:26] followed by 1 (R270). -/
theorem funct7_of_rv64Shamt {shamt : BitVec 6} (h : rv64ShamtOk shamt = true) (f6 : BitVec 6) :
    place 7 1 f6 ||| place 7 0 (shamt.extractLsb' 5 1) = place 7 1 f6 ||| 1#7 := by
  have h0 : shamt[5] = true := by simpa [rv64ShamtOk] using h
  refine BitVec.eq_of_getLsbD_eq fun i hi => ?_
  simp only [BitVec.getLsbD_or, getLsbD_place, BitVec.getLsbD_extractLsb']
  interval_cases i <;> simp [h0]

/-- A word whose inst[31:25] is `f6` followed by 1 has a shift amount of the RV64I rows and `f6` in inst[31:26] (R270). -/
theorem shamt6_of_funct7 {w : Word} {f6 : BitVec 6} (h : Field.funct7 w = place 7 1 f6 ||| 1#7) :
    rv64ShamtOk (Field.shamt6 w) = true ∧ Field.funct6 w = f6 := by
  have bit : ∀ k, (Field.funct7 w).getLsbD k = (place 7 1 f6 ||| 1#7).getLsbD k := fun k => by rw [h]
  constructor
  · have := bit 0
    rw [rv64ShamtOk_shamt6]
    simpa [Field.funct7, place] using this
  · refine BitVec.eq_of_getLsbD_eq fun i hi => ?_
    have := bit (i + 1)
    simp only [Field.funct7, BitVec.getLsbD_extractLsb', BitVec.getLsbD_or, getLsbD_place] at this
    simp only [Field.funct6, BitVec.getLsbD_extractLsb']
    interval_cases i <;> simpa using this

/-- Reading four bytes as they lie in memory reads the word they spell (R52). -/
theorem decodeBytes_bytesOfWord (w : Word) :
    decodeBytes (bytesOfWord 4 w) = (decode w).map (fun i => (i, [])) := by
  have h : bytesOfWord 4 w = [w.extractLsb' 0 8, (w >>> 8).extractLsb' 0 8, (w >>> 8 >>> 8).extractLsb' 0 8,
    (w >>> 8 >>> 8 >>> 8).extractLsb' 0 8] := rfl
  have hw := Machine.wordOfBytes_bytesOfWord w
  rw [h] at hw ⊢
  simp only [decodeBytes, hw]
  cases decode w <;> rfl

end Sys2Proof
end

