-- ==== Sys2Proof/Laws/Ops.lean ====
section
/-! SUPPORT. One lemma for each shared operation that says all it can do, and the five shapes of a step that completes. -/

namespace Sys2Proof.Machine

/-! ## Exceptions -/

@[simp] theorem raise_ne_next (cause : Word → Word → Fault) (tval : Word) (s t : State) :
    raise cause tval s ≠ .next t := by simp [raise]

@[simp] theorem raise_ne_refused (cause : Word → Word → Fault) (tval : Word) (s : State) (why : Refusal) :
    raise cause tval s ≠ .refused why := by simp [raise]

@[simp] theorem illegal_ne_next (i : Instr) (s t : State) : illegal i s ≠ .next t := by simp [illegal]

@[simp] theorem illegal_ne_refused (i : Instr) (s : State) (why : Refusal) : illegal i s ≠ .refused why := by
  simp [illegal]

theorem illegal_eq (i : Instr) (s : State) : illegal i s = .fault (.illegalInstruction s.pc (encode i)) := rfl

/-! ## Results, loads, stores -/

theorem retireWith_eq (rd : RegId) (v : Word) (s : State) : retireWith rd v s = .next (s.writeReg rd v).retire := rfl

@[simp] theorem retireWith_next {rd : RegId} {v : Word} {s t : State} :
    retireWith rd v s = .next t ↔ t = (s.writeReg rd v).retire := by simp [retireWith, eq_comm]

theorem loadInto_next {rd : RegId} {ea : Word} {n : Nat} {v : Word} {s t : State} :
    loadInto rd ea n v s = .next t ↔
      s.accessLegal .load ea n = true ∧ s.accessIO ea n = false ∧ t = (s.writeReg rd v).retire := by
  unfold loadInto
  cases s.accessLegal .load ea n <;> cases s.accessIO ea n <;> simp [eq_comm (a := t)]

theorem loadInto_fault {rd : RegId} {ea : Word} {n : Nat} {v : Word} {s : State} {e : Fault} :
    loadInto rd ea n v s = .fault e ↔ s.accessLegal .load ea n = false ∧ e = .loadAccessFault s.pc ea := by
  unfold loadInto
  cases s.accessLegal .load ea n <;> cases s.accessIO ea n <;> simp [raise, retireWith, eq_comm (a := e)]

theorem loadInto_refused {rd : RegId} {ea : Word} {n : Nat} {v : Word} {s : State} {why : Refusal} :
    loadInto rd ea n v s = .refused why ↔
      s.accessLegal .load ea n = true ∧ s.accessIO ea n = true ∧ why = .ioAccess ea := by
  unfold loadInto
  cases s.accessLegal .load ea n <;> cases s.accessIO ea n <;> simp [retireWith, eq_comm (a := why)]

theorem storeFrom_next {ea : Word} {n : Nat} {v : Word} {s t : State} :
    storeFrom ea n v s = .next t ↔
      s.accessLegal .store ea n = true ∧ s.accessIO ea n = false ∧ t = (s.stored ea n v).retire := by
  unfold storeFrom
  cases s.accessLegal .store ea n <;> cases s.accessIO ea n <;> simp [eq_comm (a := t)]

theorem storeFrom_fault {ea : Word} {n : Nat} {v : Word} {s : State} {e : Fault} :
    storeFrom ea n v s = .fault e ↔ s.accessLegal .store ea n = false ∧ e = .storeAccessFault s.pc ea := by
  unfold storeFrom
  cases s.accessLegal .store ea n <;> cases s.accessIO ea n <;> simp [raise, eq_comm (a := e)]

theorem storeFrom_refused {ea : Word} {n : Nat} {v : Word} {s : State} {why : Refusal} :
    storeFrom ea n v s = .refused why ↔
      s.accessLegal .store ea n = true ∧ s.accessIO ea n = true ∧ why = .ioAccess ea := by
  unfold storeFrom
  cases s.accessLegal .store ea n <;> cases s.accessIO ea n <;> simp [eq_comm (a := why)]

/-! ## Transfers -/

theorem jumpAndLink_next {rd : RegId} {tgt : Word} {s t : State} :
    jumpAndLink rd tgt s = .next t ↔
      misaligned tgt = false ∧ t = (s.writeReg rd (s.pc + 4#32)).retireTo tgt := by
  unfold jumpAndLink
  cases misaligned tgt <;> simp [eq_comm (a := t)]

theorem jumpAndLink_fault {rd : RegId} {tgt : Word} {s : State} {e : Fault} :
    jumpAndLink rd tgt s = .fault e ↔ misaligned tgt = true ∧ e = .instructionAddressMisaligned s.pc tgt := by
  unfold jumpAndLink
  cases misaligned tgt <;> simp [raise, eq_comm (a := e)]

@[simp] theorem jumpAndLink_ne_refused (rd : RegId) (tgt : Word) (s : State) (why : Refusal) :
    jumpAndLink rd tgt s ≠ .refused why := by
  unfold jumpAndLink
  cases misaligned tgt <;> simp

theorem branchIf_next {taken : Bool} {tgt : Word} {s t : State} :
    branchIf taken tgt s = .next t ↔
      (taken = true ∧ misaligned tgt = false ∧ t = s.retireTo tgt) ∨ (taken = false ∧ t = s.retire) := by
  unfold branchIf
  cases taken <;> cases misaligned tgt <;> simp [eq_comm (a := t)]

theorem branchIf_fault {taken : Bool} {tgt : Word} {s : State} {e : Fault} :
    branchIf taken tgt s = .fault e ↔
      taken = true ∧ misaligned tgt = true ∧ e = .instructionAddressMisaligned s.pc tgt := by
  unfold branchIf
  cases taken <;> cases misaligned tgt <;> simp [raise, eq_comm (a := e)]

@[simp] theorem branchIf_ne_refused (taken : Bool) (tgt : Word) (s : State) (why : Refusal) :
    branchIf taken tgt s ≠ .refused why := by
  unfold branchIf
  cases taken <;> cases misaligned tgt <;> simp

/-! ## CSRs and counters -/

/-- A CSR instruction completes where the number exists and the form does not write: rd has what was read, and nothing is
written to a CSR (R200, D15, D16). -/
theorem csrAccess_next {i : Instr} {rd : RegId} {csr : CsrId} {reads writes : Bool} {new : Word → Word} {s t : State} :
    csrAccess i rd csr reads writes new s = .next t ↔
      csrExists csr = true ∧ writes = false ∧
        t = ((if reads then csrRead csr s else (0#32, s)).2.writeReg rd
          (if reads then csrRead csr s else (0#32, s)).1).retire := by
  unfold csrAccess csrWritable
  cases csrExists csr <;> cases writes <;> simp [eq_comm (a := t)]

theorem csrAccess_fault {i : Instr} {rd : RegId} {csr : CsrId} {reads writes : Bool} {new : Word → Word} {s : State}
    {e : Fault} :
    csrAccess i rd csr reads writes new s = .fault e ↔
      (csrExists csr = false ∨ writes = true) ∧ e = .illegalInstruction s.pc (encode i) := by
  unfold csrAccess csrWritable
  cases csrExists csr <;> cases writes <;> simp [illegal_eq, eq_comm (a := e)]

@[simp] theorem csrAccess_ne_refused (i : Instr) (rd : RegId) (csr : CsrId) (reads writes : Bool) (new : Word → Word)
    (s : State) (why : Refusal) : csrAccess i rd csr reads writes new s ≠ .refused why := by
  unfold csrAccess csrWritable
  cases csrExists csr <;> cases writes <;> simp

/-- Reading a CSR leaves the state as it is, or draws one of the two free counters. -/
theorem csrRead_state (a : CsrId) (s : State) :
    (csrRead a s).2 = s ∨ (csrRead a s).2 = s.drawCycle ∨ (csrRead a s).2 = s.drawTime := by
  unfold csrRead
  split <;> simp

theorem laterOf_ge_left (a b : Counter) : a.toNat ≤ (laterOf a b).toNat := by
  unfold laterOf
  split <;> omega

/-! ## Fetch and step -/

theorem fetchThen_next {s t : State} {next : Word → Result} :
    fetchThen s next = .next t ↔
      misaligned s.pc = false ∧ s.accessLegal .fetch s.pc 4 = true ∧ s.accessIO s.pc 4 = false ∧
        s.accessDirty s.pc 4 = false ∧ next (s.mem.readValue s.pc 4) = .next t := by
  unfold fetchThen
  cases misaligned s.pc <;> cases s.accessLegal .fetch s.pc 4 <;> cases s.accessIO s.pc 4 <;>
    cases s.accessDirty s.pc 4 <;> simp

/-- The fetch of a word that nothing forbids. -/
theorem fetchThen_of_open {s : State} {next : Word → Result} (ha : misaligned s.pc = false)
    (hl : s.accessLegal .fetch s.pc 4 = true) (hio : s.accessIO s.pc 4 = false) (hd : s.accessDirty s.pc 4 = false) :
    fetchThen s next = next (s.mem.readValue s.pc 4) := by
  simp [fetchThen, ha, hl, hio, hd]

/-- A step that completes fetched a word that decodes, and is the meaning of its instruction. -/
theorem step_next {s t : State} (h : step s = .next t) :
    ∃ i, decode (s.mem.readValue s.pc 4) = .ok i ∧ exec i s = .next t := by
  obtain ⟨-, -, -, -, h⟩ := fetchThen_next.1 h
  unfold runWord at h
  split at h
  · exact ⟨_, ‹_›, h⟩
  · simp at h

/-! ## The shapes of a completed instruction -/

/-- Every way an instruction can complete: a register and the next pc; a store of at most 4 bytes; an aligned transfer,
linking or not; FENCE.I; a read of a counter that is a draw. -/
theorem exec_next_cases {i : Instr} {s t : State} (h : exec i s = .next t) :
    (∃ rd v, t = (s.writeReg rd v).retire) ∨
    (∃ ea n v, n ≤ 4 ∧ t = (s.stored ea n v).retire) ∨
    (∃ rd v tgt, misaligned tgt = false ∧ t = (s.writeReg rd v).retireTo tgt) ∨
    t = State.retire { s with dirty := [] } ∨
    (∃ rd v, t = (s.drawCycle.writeReg rd v).retire ∨ t = (s.drawTime.writeReg rd v).retire) := by
  have csr : ∀ {i rd csr reads writes new}, csrAccess i rd csr reads writes new s = .next t →
      (∃ rd v, t = (s.writeReg rd v).retire) ∨
      (∃ rd v, t = (s.drawCycle.writeReg rd v).retire ∨ t = (s.drawTime.writeReg rd v).retire) := by
    intro i rd csr reads writes new h
    obtain ⟨-, -, rfl⟩ := csrAccess_next.1 h
    cases reads
    · exact .inl ⟨rd, 0#32, rfl⟩
    · rcases csrRead_state csr s with e | e | e
      · exact .inl ⟨rd, (csrRead csr s).1, by rw [if_pos rfl, e]⟩
      · exact .inr ⟨rd, (csrRead csr s).1, .inl (by rw [if_pos rfl, e])⟩
      · exact .inr ⟨rd, (csrRead csr s).1, .inr (by rw [if_pos rfl, e])⟩
  have load : ∀ {rd ea n v}, loadInto rd ea n v s = .next t → ∃ rd v, t = (s.writeReg rd v).retire :=
    fun h => ⟨_, _, (loadInto_next.1 h).2.2⟩
  have store : ∀ {ea n v}, n ≤ 4 → storeFrom ea n v s = .next t → ∃ ea n v, n ≤ 4 ∧ t = (s.stored ea n v).retire :=
    fun hn h => ⟨_, _, _, hn, (storeFrom_next.1 h).2.2⟩
  have branch : ∀ {b tgt}, branchIf b tgt s = .next t →
      (∃ rd v, t = (s.writeReg rd v).retire) ∨ (∃ rd v tgt, misaligned tgt = false ∧ t = (s.writeReg rd v).retireTo tgt) := by
    intro b tgt h
    rcases branchIf_next.1 h with ⟨-, ha, rfl⟩ | ⟨-, rfl⟩
    · exact .inr ⟨0#5, 0#32, tgt, ha, by simp⟩
    · exact .inl ⟨0#5, 0#32, by simp⟩
  have jump : ∀ {rd tgt}, jumpAndLink rd tgt s = .next t →
      ∃ rd v tgt, misaligned tgt = false ∧ t = (s.writeReg rd v).retireTo tgt :=
    fun h => ⟨_, _, _, (jumpAndLink_next.1 h).1, (jumpAndLink_next.1 h).2⟩
  cases i <;> simp only [exec] at h
  case fence => exact .inl ⟨0#5, 0#32, by simpa [execFence, eq_comm] using h⟩
  case fenceI => exact .inr (.inr (.inr (.inl (by simpa [execFenceI, eq_comm] using h))))
  case jal => exact .inr (.inr (.inl (jump h)))
  case jalr => exact .inr (.inr (.inl (jump h)))
  case ecall => exact absurd h (raise_ne_next _ _ s t)
  case ebreak => exact absurd h (raise_ne_next _ _ s t)
  case sb => exact .inr (.inl (store (by omega) h))
  case sh => exact .inr (.inl (store (by omega) h))
  case sw => exact .inr (.inl (store (by omega) h))
  case lb | lh | lw | lbu | lhu => exact .inl (load h)
  case beq | bne | blt | bge | bltu | bgeu => exact (branch h).imp_right (.inr ∘ .inl)
  case csrrw | csrrs | csrrc | csrrwi | csrrsi | csrrci => exact (csr h).imp_right (.inr ∘ .inr ∘ .inr)
  case lui | auipc | addi | slti | sltiu | xori | ori | andi | slli | srli | srai | add | sub | sll | slt | sltu | xor |
      srl | sra | or | and | mul | mulh | mulhsu | mulhu | div | divu | rem | remu =>
    exact .inl ⟨_, _, retireWith_next.1 h⟩
  all_goals exact absurd h (illegal_ne_next _ s t)

end Sys2Proof.Machine
end

