-- ==== Sys2Proof/Laws/PerInstr.lean ====
section
/-! SUPPORT. The per-instruction families of LAWS.json, one lemma for each constructor of Instr. -/

namespace Sys2Proof.Laws

/-- "Every 32-bit instruction has `inst[1:0] = 0b11`" (R80): the word of an instruction, whatever its operands. -/
def ParcelBits.Statement (i : Instr) : Prop := (encode i).extractLsb' 0 2 = 0b11#2

/-- inst[1:0] are the low bits of the major opcode (R82). -/
theorem ParcelBits.of_opcode {w : Word} {op : BitVec 7} (h : Field.opcode w = op) (hop : op.extractLsb' 0 2 = 0b11#2) :
    w.extractLsb' 0 2 = 0b11#2 := by
  subst h
  rw [← hop]
  refine BitVec.eq_of_getLsbD_eq fun i hi => ?_
  simp only [Field.opcode, BitVec.getLsbD_extractLsb']
  interval_cases i <;> simp

theorem ParcelBits.lui (rd : RegId) (imm : BitVec 20) : ParcelBits.Statement (.lui rd imm) :=
  ParcelBits.of_opcode (Field.opcode_uType _ _ _) (by decide)
theorem ParcelBits.auipc (rd : RegId) (imm : BitVec 20) : ParcelBits.Statement (.auipc rd imm) :=
  ParcelBits.of_opcode (Field.opcode_uType _ _ _) (by decide)
theorem ParcelBits.jal (rd : RegId) (imm : BitVec 21) : ParcelBits.Statement (.jal rd imm) :=
  ParcelBits.of_opcode (Field.opcode_jType _ _ _) (by decide)
theorem ParcelBits.jalr (rd rs1 : RegId) (imm : BitVec 12) : ParcelBits.Statement (.jalr rd rs1 imm) :=
  ParcelBits.of_opcode (Field.opcode_iType _ _ _ _ _) (by decide)
theorem ParcelBits.beq (rs1 rs2 : RegId) (imm : BitVec 13) : ParcelBits.Statement (.beq rs1 rs2 imm) :=
  ParcelBits.of_opcode (Field.opcode_bType _ _ _ _ _) (by decide)
theorem ParcelBits.bne (rs1 rs2 : RegId) (imm : BitVec 13) : ParcelBits.Statement (.bne rs1 rs2 imm) :=
  ParcelBits.of_opcode (Field.opcode_bType _ _ _ _ _) (by decide)
theorem ParcelBits.blt (rs1 rs2 : RegId) (imm : BitVec 13) : ParcelBits.Statement (.blt rs1 rs2 imm) :=
  ParcelBits.of_opcode (Field.opcode_bType _ _ _ _ _) (by decide)
theorem ParcelBits.bge (rs1 rs2 : RegId) (imm : BitVec 13) : ParcelBits.Statement (.bge rs1 rs2 imm) :=
  ParcelBits.of_opcode (Field.opcode_bType _ _ _ _ _) (by decide)
theorem ParcelBits.bltu (rs1 rs2 : RegId) (imm : BitVec 13) : ParcelBits.Statement (.bltu rs1 rs2 imm) :=
  ParcelBits.of_opcode (Field.opcode_bType _ _ _ _ _) (by decide)
theorem ParcelBits.bgeu (rs1 rs2 : RegId) (imm : BitVec 13) : ParcelBits.Statement (.bgeu rs1 rs2 imm) :=
  ParcelBits.of_opcode (Field.opcode_bType _ _ _ _ _) (by decide)
theorem ParcelBits.lb (rd rs1 : RegId) (imm : BitVec 12) : ParcelBits.Statement (.lb rd rs1 imm) :=
  ParcelBits.of_opcode (Field.opcode_iType _ _ _ _ _) (by decide)
theorem ParcelBits.lh (rd rs1 : RegId) (imm : BitVec 12) : ParcelBits.Statement (.lh rd rs1 imm) :=
  ParcelBits.of_opcode (Field.opcode_iType _ _ _ _ _) (by decide)
theorem ParcelBits.lw (rd rs1 : RegId) (imm : BitVec 12) : ParcelBits.Statement (.lw rd rs1 imm) :=
  ParcelBits.of_opcode (Field.opcode_iType _ _ _ _ _) (by decide)
theorem ParcelBits.lbu (rd rs1 : RegId) (imm : BitVec 12) : ParcelBits.Statement (.lbu rd rs1 imm) :=
  ParcelBits.of_opcode (Field.opcode_iType _ _ _ _ _) (by decide)
theorem ParcelBits.lhu (rd rs1 : RegId) (imm : BitVec 12) : ParcelBits.Statement (.lhu rd rs1 imm) :=
  ParcelBits.of_opcode (Field.opcode_iType _ _ _ _ _) (by decide)
theorem ParcelBits.sb (rs1 rs2 : RegId) (imm : BitVec 12) : ParcelBits.Statement (.sb rs1 rs2 imm) :=
  ParcelBits.of_opcode (Field.opcode_sType _ _ _ _ _) (by decide)
theorem ParcelBits.sh (rs1 rs2 : RegId) (imm : BitVec 12) : ParcelBits.Statement (.sh rs1 rs2 imm) :=
  ParcelBits.of_opcode (Field.opcode_sType _ _ _ _ _) (by decide)
theorem ParcelBits.sw (rs1 rs2 : RegId) (imm : BitVec 12) : ParcelBits.Statement (.sw rs1 rs2 imm) :=
  ParcelBits.of_opcode (Field.opcode_sType _ _ _ _ _) (by decide)
theorem ParcelBits.addi (rd rs1 : RegId) (imm : BitVec 12) : ParcelBits.Statement (.addi rd rs1 imm) :=
  ParcelBits.of_opcode (Field.opcode_iType _ _ _ _ _) (by decide)
theorem ParcelBits.slti (rd rs1 : RegId) (imm : BitVec 12) : ParcelBits.Statement (.slti rd rs1 imm) :=
  ParcelBits.of_opcode (Field.opcode_iType _ _ _ _ _) (by decide)
theorem ParcelBits.sltiu (rd rs1 : RegId) (imm : BitVec 12) : ParcelBits.Statement (.sltiu rd rs1 imm) :=
  ParcelBits.of_opcode (Field.opcode_iType _ _ _ _ _) (by decide)
theorem ParcelBits.xori (rd rs1 : RegId) (imm : BitVec 12) : ParcelBits.Statement (.xori rd rs1 imm) :=
  ParcelBits.of_opcode (Field.opcode_iType _ _ _ _ _) (by decide)
theorem ParcelBits.ori (rd rs1 : RegId) (imm : BitVec 12) : ParcelBits.Statement (.ori rd rs1 imm) :=
  ParcelBits.of_opcode (Field.opcode_iType _ _ _ _ _) (by decide)
theorem ParcelBits.andi (rd rs1 : RegId) (imm : BitVec 12) : ParcelBits.Statement (.andi rd rs1 imm) :=
  ParcelBits.of_opcode (Field.opcode_iType _ _ _ _ _) (by decide)
theorem ParcelBits.slli (rd rs1 : RegId) (shamt : BitVec 5) : ParcelBits.Statement (.slli rd rs1 shamt) :=
  ParcelBits.of_opcode (Field.opcode_rType _ _ _ _ _ _) (by decide)
theorem ParcelBits.srli (rd rs1 : RegId) (shamt : BitVec 5) : ParcelBits.Statement (.srli rd rs1 shamt) :=
  ParcelBits.of_opcode (Field.opcode_rType _ _ _ _ _ _) (by decide)
theorem ParcelBits.srai (rd rs1 : RegId) (shamt : BitVec 5) : ParcelBits.Statement (.srai rd rs1 shamt) :=
  ParcelBits.of_opcode (Field.opcode_rType _ _ _ _ _ _) (by decide)
theorem ParcelBits.add (rd rs1 rs2 : RegId) : ParcelBits.Statement (.add rd rs1 rs2) :=
  ParcelBits.of_opcode (Field.opcode_rType _ _ _ _ _ _) (by decide)
theorem ParcelBits.sub (rd rs1 rs2 : RegId) : ParcelBits.Statement (.sub rd rs1 rs2) :=
  ParcelBits.of_opcode (Field.opcode_rType _ _ _ _ _ _) (by decide)
theorem ParcelBits.sll (rd rs1 rs2 : RegId) : ParcelBits.Statement (.sll rd rs1 rs2) :=
  ParcelBits.of_opcode (Field.opcode_rType _ _ _ _ _ _) (by decide)
theorem ParcelBits.slt (rd rs1 rs2 : RegId) : ParcelBits.Statement (.slt rd rs1 rs2) :=
  ParcelBits.of_opcode (Field.opcode_rType _ _ _ _ _ _) (by decide)
theorem ParcelBits.sltu (rd rs1 rs2 : RegId) : ParcelBits.Statement (.sltu rd rs1 rs2) :=
  ParcelBits.of_opcode (Field.opcode_rType _ _ _ _ _ _) (by decide)
theorem ParcelBits.xor (rd rs1 rs2 : RegId) : ParcelBits.Statement (.xor rd rs1 rs2) :=
  ParcelBits.of_opcode (Field.opcode_rType _ _ _ _ _ _) (by decide)
theorem ParcelBits.srl (rd rs1 rs2 : RegId) : ParcelBits.Statement (.srl rd rs1 rs2) :=
  ParcelBits.of_opcode (Field.opcode_rType _ _ _ _ _ _) (by decide)
theorem ParcelBits.sra (rd rs1 rs2 : RegId) : ParcelBits.Statement (.sra rd rs1 rs2) :=
  ParcelBits.of_opcode (Field.opcode_rType _ _ _ _ _ _) (by decide)
theorem ParcelBits.or (rd rs1 rs2 : RegId) : ParcelBits.Statement (.or rd rs1 rs2) :=
  ParcelBits.of_opcode (Field.opcode_rType _ _ _ _ _ _) (by decide)
theorem ParcelBits.and (rd rs1 rs2 : RegId) : ParcelBits.Statement (.and rd rs1 rs2) :=
  ParcelBits.of_opcode (Field.opcode_rType _ _ _ _ _ _) (by decide)
theorem ParcelBits.fence (pred succ : BitVec 4) : ParcelBits.Statement (.fence pred succ) :=
  ParcelBits.of_opcode (Field.opcode_fenceType _ _ _) (by decide)
theorem ParcelBits.fenceI : ParcelBits.Statement .fenceI :=
  ParcelBits.of_opcode (Field.opcode_iType _ _ _ _ _) (by decide)
theorem ParcelBits.ecall : ParcelBits.Statement .ecall :=
  ParcelBits.of_opcode (Field.opcode_iType _ _ _ _ _) (by decide)
theorem ParcelBits.ebreak : ParcelBits.Statement .ebreak :=
  ParcelBits.of_opcode (Field.opcode_iType _ _ _ _ _) (by decide)
theorem ParcelBits.csrrw (rd : RegId) (csr : CsrId) (rs1 : RegId) : ParcelBits.Statement (.csrrw rd csr rs1) :=
  ParcelBits.of_opcode (Field.opcode_iType _ _ _ _ _) (by decide)
theorem ParcelBits.csrrs (rd : RegId) (csr : CsrId) (rs1 : RegId) : ParcelBits.Statement (.csrrs rd csr rs1) :=
  ParcelBits.of_opcode (Field.opcode_iType _ _ _ _ _) (by decide)
theorem ParcelBits.csrrc (rd : RegId) (csr : CsrId) (rs1 : RegId) : ParcelBits.Statement (.csrrc rd csr rs1) :=
  ParcelBits.of_opcode (Field.opcode_iType _ _ _ _ _) (by decide)
theorem ParcelBits.csrrwi (rd : RegId) (csr : CsrId) (uimm : BitVec 5) : ParcelBits.Statement (.csrrwi rd csr uimm) :=
  ParcelBits.of_opcode (Field.opcode_iType _ _ _ _ _) (by decide)
theorem ParcelBits.csrrsi (rd : RegId) (csr : CsrId) (uimm : BitVec 5) : ParcelBits.Statement (.csrrsi rd csr uimm) :=
  ParcelBits.of_opcode (Field.opcode_iType _ _ _ _ _) (by decide)
theorem ParcelBits.csrrci (rd : RegId) (csr : CsrId) (uimm : BitVec 5) : ParcelBits.Statement (.csrrci rd csr uimm) :=
  ParcelBits.of_opcode (Field.opcode_iType _ _ _ _ _) (by decide)
theorem ParcelBits.mul (rd rs1 rs2 : RegId) : ParcelBits.Statement (.mul rd rs1 rs2) :=
  ParcelBits.of_opcode (Field.opcode_rType _ _ _ _ _ _) (by decide)
theorem ParcelBits.mulh (rd rs1 rs2 : RegId) : ParcelBits.Statement (.mulh rd rs1 rs2) :=
  ParcelBits.of_opcode (Field.opcode_rType _ _ _ _ _ _) (by decide)
theorem ParcelBits.mulhsu (rd rs1 rs2 : RegId) : ParcelBits.Statement (.mulhsu rd rs1 rs2) :=
  ParcelBits.of_opcode (Field.opcode_rType _ _ _ _ _ _) (by decide)
theorem ParcelBits.mulhu (rd rs1 rs2 : RegId) : ParcelBits.Statement (.mulhu rd rs1 rs2) :=
  ParcelBits.of_opcode (Field.opcode_rType _ _ _ _ _ _) (by decide)
theorem ParcelBits.div (rd rs1 rs2 : RegId) : ParcelBits.Statement (.div rd rs1 rs2) :=
  ParcelBits.of_opcode (Field.opcode_rType _ _ _ _ _ _) (by decide)
theorem ParcelBits.divu (rd rs1 rs2 : RegId) : ParcelBits.Statement (.divu rd rs1 rs2) :=
  ParcelBits.of_opcode (Field.opcode_rType _ _ _ _ _ _) (by decide)
theorem ParcelBits.rem (rd rs1 rs2 : RegId) : ParcelBits.Statement (.rem rd rs1 rs2) :=
  ParcelBits.of_opcode (Field.opcode_rType _ _ _ _ _ _) (by decide)
theorem ParcelBits.remu (rd rs1 rs2 : RegId) : ParcelBits.Statement (.remu rd rs1 rs2) :=
  ParcelBits.of_opcode (Field.opcode_rType _ _ _ _ _ _) (by decide)
theorem ParcelBits.lwu (rd rs1 : RegId) (imm : BitVec 12) : ParcelBits.Statement (.lwu rd rs1 imm) :=
  ParcelBits.of_opcode (Field.opcode_iType _ _ _ _ _) (by decide)
theorem ParcelBits.ld (rd rs1 : RegId) (imm : BitVec 12) : ParcelBits.Statement (.ld rd rs1 imm) :=
  ParcelBits.of_opcode (Field.opcode_iType _ _ _ _ _) (by decide)
theorem ParcelBits.sd (rs1 rs2 : RegId) (imm : BitVec 12) : ParcelBits.Statement (.sd rs1 rs2 imm) :=
  ParcelBits.of_opcode (Field.opcode_sType _ _ _ _ _) (by decide)
theorem ParcelBits.slliRv64 (rd rs1 : RegId) (shamt : BitVec 6) : ParcelBits.Statement (.slliRv64 rd rs1 shamt) :=
  ParcelBits.of_opcode (Field.opcode_shift64Type _ _ _ _ _ _) (by decide)
theorem ParcelBits.srliRv64 (rd rs1 : RegId) (shamt : BitVec 6) : ParcelBits.Statement (.srliRv64 rd rs1 shamt) :=
  ParcelBits.of_opcode (Field.opcode_shift64Type _ _ _ _ _ _) (by decide)
theorem ParcelBits.sraiRv64 (rd rs1 : RegId) (shamt : BitVec 6) : ParcelBits.Statement (.sraiRv64 rd rs1 shamt) :=
  ParcelBits.of_opcode (Field.opcode_shift64Type _ _ _ _ _ _) (by decide)
theorem ParcelBits.addiw (rd rs1 : RegId) (imm : BitVec 12) : ParcelBits.Statement (.addiw rd rs1 imm) :=
  ParcelBits.of_opcode (Field.opcode_iType _ _ _ _ _) (by decide)
theorem ParcelBits.slliw (rd rs1 : RegId) (shamt : BitVec 5) : ParcelBits.Statement (.slliw rd rs1 shamt) :=
  ParcelBits.of_opcode (Field.opcode_rType _ _ _ _ _ _) (by decide)
theorem ParcelBits.srliw (rd rs1 : RegId) (shamt : BitVec 5) : ParcelBits.Statement (.srliw rd rs1 shamt) :=
  ParcelBits.of_opcode (Field.opcode_rType _ _ _ _ _ _) (by decide)
theorem ParcelBits.sraiw (rd rs1 : RegId) (shamt : BitVec 5) : ParcelBits.Statement (.sraiw rd rs1 shamt) :=
  ParcelBits.of_opcode (Field.opcode_rType _ _ _ _ _ _) (by decide)
theorem ParcelBits.addw (rd rs1 rs2 : RegId) : ParcelBits.Statement (.addw rd rs1 rs2) :=
  ParcelBits.of_opcode (Field.opcode_rType _ _ _ _ _ _) (by decide)
theorem ParcelBits.subw (rd rs1 rs2 : RegId) : ParcelBits.Statement (.subw rd rs1 rs2) :=
  ParcelBits.of_opcode (Field.opcode_rType _ _ _ _ _ _) (by decide)
theorem ParcelBits.sllw (rd rs1 rs2 : RegId) : ParcelBits.Statement (.sllw rd rs1 rs2) :=
  ParcelBits.of_opcode (Field.opcode_rType _ _ _ _ _ _) (by decide)
theorem ParcelBits.srlw (rd rs1 rs2 : RegId) : ParcelBits.Statement (.srlw rd rs1 rs2) :=
  ParcelBits.of_opcode (Field.opcode_rType _ _ _ _ _ _) (by decide)
theorem ParcelBits.sraw (rd rs1 rs2 : RegId) : ParcelBits.Statement (.sraw rd rs1 rs2) :=
  ParcelBits.of_opcode (Field.opcode_rType _ _ _ _ _ _) (by decide)
theorem ParcelBits.mulw (rd rs1 rs2 : RegId) : ParcelBits.Statement (.mulw rd rs1 rs2) :=
  ParcelBits.of_opcode (Field.opcode_rType _ _ _ _ _ _) (by decide)
theorem ParcelBits.divw (rd rs1 rs2 : RegId) : ParcelBits.Statement (.divw rd rs1 rs2) :=
  ParcelBits.of_opcode (Field.opcode_rType _ _ _ _ _ _) (by decide)
theorem ParcelBits.divuw (rd rs1 rs2 : RegId) : ParcelBits.Statement (.divuw rd rs1 rs2) :=
  ParcelBits.of_opcode (Field.opcode_rType _ _ _ _ _ _) (by decide)
theorem ParcelBits.remw (rd rs1 rs2 : RegId) : ParcelBits.Statement (.remw rd rs1 rs2) :=
  ParcelBits.of_opcode (Field.opcode_rType _ _ _ _ _ _) (by decide)
theorem ParcelBits.remuw (rd rs1 rs2 : RegId) : ParcelBits.Statement (.remuw rd rs1 rs2) :=
  ParcelBits.of_opcode (Field.opcode_rType _ _ _ _ _ _) (by decide)
theorem ParcelBits.lrW (rd rs1 : RegId) (aq rl : BitVec 1) : ParcelBits.Statement (.lrW rd rs1 aq rl) :=
  ParcelBits.of_opcode (Field.opcode_amoType _ _ _ _ _ _ _ _) (by decide)
theorem ParcelBits.scW (rd rs1 rs2 : RegId) (aq rl : BitVec 1) : ParcelBits.Statement (.scW rd rs1 rs2 aq rl) :=
  ParcelBits.of_opcode (Field.opcode_amoType _ _ _ _ _ _ _ _) (by decide)
theorem ParcelBits.amoswapW (rd rs1 rs2 : RegId) (aq rl : BitVec 1) : ParcelBits.Statement (.amoswapW rd rs1 rs2 aq rl) :=
  ParcelBits.of_opcode (Field.opcode_amoType _ _ _ _ _ _ _ _) (by decide)
theorem ParcelBits.amoaddW (rd rs1 rs2 : RegId) (aq rl : BitVec 1) : ParcelBits.Statement (.amoaddW rd rs1 rs2 aq rl) :=
  ParcelBits.of_opcode (Field.opcode_amoType _ _ _ _ _ _ _ _) (by decide)
theorem ParcelBits.amoxorW (rd rs1 rs2 : RegId) (aq rl : BitVec 1) : ParcelBits.Statement (.amoxorW rd rs1 rs2 aq rl) :=
  ParcelBits.of_opcode (Field.opcode_amoType _ _ _ _ _ _ _ _) (by decide)
theorem ParcelBits.amoandW (rd rs1 rs2 : RegId) (aq rl : BitVec 1) : ParcelBits.Statement (.amoandW rd rs1 rs2 aq rl) :=
  ParcelBits.of_opcode (Field.opcode_amoType _ _ _ _ _ _ _ _) (by decide)
theorem ParcelBits.amoorW (rd rs1 rs2 : RegId) (aq rl : BitVec 1) : ParcelBits.Statement (.amoorW rd rs1 rs2 aq rl) :=
  ParcelBits.of_opcode (Field.opcode_amoType _ _ _ _ _ _ _ _) (by decide)
theorem ParcelBits.amominW (rd rs1 rs2 : RegId) (aq rl : BitVec 1) : ParcelBits.Statement (.amominW rd rs1 rs2 aq rl) :=
  ParcelBits.of_opcode (Field.opcode_amoType _ _ _ _ _ _ _ _) (by decide)
theorem ParcelBits.amomaxW (rd rs1 rs2 : RegId) (aq rl : BitVec 1) : ParcelBits.Statement (.amomaxW rd rs1 rs2 aq rl) :=
  ParcelBits.of_opcode (Field.opcode_amoType _ _ _ _ _ _ _ _) (by decide)
theorem ParcelBits.amominuW (rd rs1 rs2 : RegId) (aq rl : BitVec 1) : ParcelBits.Statement (.amominuW rd rs1 rs2 aq rl) :=
  ParcelBits.of_opcode (Field.opcode_amoType _ _ _ _ _ _ _ _) (by decide)
theorem ParcelBits.amomaxuW (rd rs1 rs2 : RegId) (aq rl : BitVec 1) : ParcelBits.Statement (.amomaxuW rd rs1 rs2 aq rl) :=
  ParcelBits.of_opcode (Field.opcode_amoType _ _ _ _ _ _ _ _) (by decide)
theorem ParcelBits.lrD (rd rs1 : RegId) (aq rl : BitVec 1) : ParcelBits.Statement (.lrD rd rs1 aq rl) :=
  ParcelBits.of_opcode (Field.opcode_amoType _ _ _ _ _ _ _ _) (by decide)
theorem ParcelBits.scD (rd rs1 rs2 : RegId) (aq rl : BitVec 1) : ParcelBits.Statement (.scD rd rs1 rs2 aq rl) :=
  ParcelBits.of_opcode (Field.opcode_amoType _ _ _ _ _ _ _ _) (by decide)
theorem ParcelBits.amoswapD (rd rs1 rs2 : RegId) (aq rl : BitVec 1) : ParcelBits.Statement (.amoswapD rd rs1 rs2 aq rl) :=
  ParcelBits.of_opcode (Field.opcode_amoType _ _ _ _ _ _ _ _) (by decide)
theorem ParcelBits.amoaddD (rd rs1 rs2 : RegId) (aq rl : BitVec 1) : ParcelBits.Statement (.amoaddD rd rs1 rs2 aq rl) :=
  ParcelBits.of_opcode (Field.opcode_amoType _ _ _ _ _ _ _ _) (by decide)
theorem ParcelBits.amoxorD (rd rs1 rs2 : RegId) (aq rl : BitVec 1) : ParcelBits.Statement (.amoxorD rd rs1 rs2 aq rl) :=
  ParcelBits.of_opcode (Field.opcode_amoType _ _ _ _ _ _ _ _) (by decide)
theorem ParcelBits.amoandD (rd rs1 rs2 : RegId) (aq rl : BitVec 1) : ParcelBits.Statement (.amoandD rd rs1 rs2 aq rl) :=
  ParcelBits.of_opcode (Field.opcode_amoType _ _ _ _ _ _ _ _) (by decide)
theorem ParcelBits.amoorD (rd rs1 rs2 : RegId) (aq rl : BitVec 1) : ParcelBits.Statement (.amoorD rd rs1 rs2 aq rl) :=
  ParcelBits.of_opcode (Field.opcode_amoType _ _ _ _ _ _ _ _) (by decide)
theorem ParcelBits.amominD (rd rs1 rs2 : RegId) (aq rl : BitVec 1) : ParcelBits.Statement (.amominD rd rs1 rs2 aq rl) :=
  ParcelBits.of_opcode (Field.opcode_amoType _ _ _ _ _ _ _ _) (by decide)
theorem ParcelBits.amomaxD (rd rs1 rs2 : RegId) (aq rl : BitVec 1) : ParcelBits.Statement (.amomaxD rd rs1 rs2 aq rl) :=
  ParcelBits.of_opcode (Field.opcode_amoType _ _ _ _ _ _ _ _) (by decide)
theorem ParcelBits.amominuD (rd rs1 rs2 : RegId) (aq rl : BitVec 1) : ParcelBits.Statement (.amominuD rd rs1 rs2 aq rl) :=
  ParcelBits.of_opcode (Field.opcode_amoType _ _ _ _ _ _ _ _) (by decide)
theorem ParcelBits.amomaxuD (rd rs1 rs2 : RegId) (aq rl : BitVec 1) : ParcelBits.Statement (.amomaxuD rd rs1 rs2 aq rl) :=
  ParcelBits.of_opcode (Field.opcode_amoType _ _ _ _ _ _ _ _) (by decide)
theorem ParcelBits.flw (rd rs1 : RegId) (imm : BitVec 12) : ParcelBits.Statement (.flw rd rs1 imm) :=
  ParcelBits.of_opcode (Field.opcode_iType _ _ _ _ _) (by decide)
theorem ParcelBits.fsw (rs1 rs2 : RegId) (imm : BitVec 12) : ParcelBits.Statement (.fsw rs1 rs2 imm) :=
  ParcelBits.of_opcode (Field.opcode_sType _ _ _ _ _) (by decide)
theorem ParcelBits.fmaddS (rd rs1 rs2 rs3 : RegId) (rm : BitVec 3) : ParcelBits.Statement (.fmaddS rd rs1 rs2 rs3 rm) :=
  ParcelBits.of_opcode (Field.opcode_r4Type _ _ _ _ _ _ _) (by decide)
theorem ParcelBits.fmsubS (rd rs1 rs2 rs3 : RegId) (rm : BitVec 3) : ParcelBits.Statement (.fmsubS rd rs1 rs2 rs3 rm) :=
  ParcelBits.of_opcode (Field.opcode_r4Type _ _ _ _ _ _ _) (by decide)
theorem ParcelBits.fnmsubS (rd rs1 rs2 rs3 : RegId) (rm : BitVec 3) : ParcelBits.Statement (.fnmsubS rd rs1 rs2 rs3 rm) :=
  ParcelBits.of_opcode (Field.opcode_r4Type _ _ _ _ _ _ _) (by decide)
theorem ParcelBits.fnmaddS (rd rs1 rs2 rs3 : RegId) (rm : BitVec 3) : ParcelBits.Statement (.fnmaddS rd rs1 rs2 rs3 rm) :=
  ParcelBits.of_opcode (Field.opcode_r4Type _ _ _ _ _ _ _) (by decide)
theorem ParcelBits.faddS (rd rs1 rs2 : RegId) (rm : BitVec 3) : ParcelBits.Statement (.faddS rd rs1 rs2 rm) :=
  ParcelBits.of_opcode (Field.opcode_rType _ _ _ _ _ _) (by decide)
theorem ParcelBits.fsubS (rd rs1 rs2 : RegId) (rm : BitVec 3) : ParcelBits.Statement (.fsubS rd rs1 rs2 rm) :=
  ParcelBits.of_opcode (Field.opcode_rType _ _ _ _ _ _) (by decide)
theorem ParcelBits.fmulS (rd rs1 rs2 : RegId) (rm : BitVec 3) : ParcelBits.Statement (.fmulS rd rs1 rs2 rm) :=
  ParcelBits.of_opcode (Field.opcode_rType _ _ _ _ _ _) (by decide)
theorem ParcelBits.fdivS (rd rs1 rs2 : RegId) (rm : BitVec 3) : ParcelBits.Statement (.fdivS rd rs1 rs2 rm) :=
  ParcelBits.of_opcode (Field.opcode_rType _ _ _ _ _ _) (by decide)
theorem ParcelBits.fsqrtS (rd rs1 : RegId) (rm : BitVec 3) : ParcelBits.Statement (.fsqrtS rd rs1 rm) :=
  ParcelBits.of_opcode (Field.opcode_rType _ _ _ _ _ _) (by decide)
theorem ParcelBits.fsgnjS (rd rs1 rs2 : RegId) : ParcelBits.Statement (.fsgnjS rd rs1 rs2) :=
  ParcelBits.of_opcode (Field.opcode_rType _ _ _ _ _ _) (by decide)
theorem ParcelBits.fsgnjnS (rd rs1 rs2 : RegId) : ParcelBits.Statement (.fsgnjnS rd rs1 rs2) :=
  ParcelBits.of_opcode (Field.opcode_rType _ _ _ _ _ _) (by decide)
theorem ParcelBits.fsgnjxS (rd rs1 rs2 : RegId) : ParcelBits.Statement (.fsgnjxS rd rs1 rs2) :=
  ParcelBits.of_opcode (Field.opcode_rType _ _ _ _ _ _) (by decide)
theorem ParcelBits.fminS (rd rs1 rs2 : RegId) : ParcelBits.Statement (.fminS rd rs1 rs2) :=
  ParcelBits.of_opcode (Field.opcode_rType _ _ _ _ _ _) (by decide)
theorem ParcelBits.fmaxS (rd rs1 rs2 : RegId) : ParcelBits.Statement (.fmaxS rd rs1 rs2) :=
  ParcelBits.of_opcode (Field.opcode_rType _ _ _ _ _ _) (by decide)
theorem ParcelBits.fcvtWS (rd rs1 : RegId) (rm : BitVec 3) : ParcelBits.Statement (.fcvtWS rd rs1 rm) :=
  ParcelBits.of_opcode (Field.opcode_rType _ _ _ _ _ _) (by decide)
theorem ParcelBits.fcvtWuS (rd rs1 : RegId) (rm : BitVec 3) : ParcelBits.Statement (.fcvtWuS rd rs1 rm) :=
  ParcelBits.of_opcode (Field.opcode_rType _ _ _ _ _ _) (by decide)
theorem ParcelBits.fmvXW (rd rs1 : RegId) : ParcelBits.Statement (.fmvXW rd rs1) :=
  ParcelBits.of_opcode (Field.opcode_rType _ _ _ _ _ _) (by decide)
theorem ParcelBits.feqS (rd rs1 rs2 : RegId) : ParcelBits.Statement (.feqS rd rs1 rs2) :=
  ParcelBits.of_opcode (Field.opcode_rType _ _ _ _ _ _) (by decide)
theorem ParcelBits.fltS (rd rs1 rs2 : RegId) : ParcelBits.Statement (.fltS rd rs1 rs2) :=
  ParcelBits.of_opcode (Field.opcode_rType _ _ _ _ _ _) (by decide)
theorem ParcelBits.fleS (rd rs1 rs2 : RegId) : ParcelBits.Statement (.fleS rd rs1 rs2) :=
  ParcelBits.of_opcode (Field.opcode_rType _ _ _ _ _ _) (by decide)
theorem ParcelBits.fclassS (rd rs1 : RegId) : ParcelBits.Statement (.fclassS rd rs1) :=
  ParcelBits.of_opcode (Field.opcode_rType _ _ _ _ _ _) (by decide)
theorem ParcelBits.fcvtSW (rd rs1 : RegId) (rm : BitVec 3) : ParcelBits.Statement (.fcvtSW rd rs1 rm) :=
  ParcelBits.of_opcode (Field.opcode_rType _ _ _ _ _ _) (by decide)
theorem ParcelBits.fcvtSWu (rd rs1 : RegId) (rm : BitVec 3) : ParcelBits.Statement (.fcvtSWu rd rs1 rm) :=
  ParcelBits.of_opcode (Field.opcode_rType _ _ _ _ _ _) (by decide)
theorem ParcelBits.fmvWX (rd rs1 : RegId) : ParcelBits.Statement (.fmvWX rd rs1) :=
  ParcelBits.of_opcode (Field.opcode_rType _ _ _ _ _ _) (by decide)
theorem ParcelBits.fcvtLS (rd rs1 : RegId) (rm : BitVec 3) : ParcelBits.Statement (.fcvtLS rd rs1 rm) :=
  ParcelBits.of_opcode (Field.opcode_rType _ _ _ _ _ _) (by decide)
theorem ParcelBits.fcvtLuS (rd rs1 : RegId) (rm : BitVec 3) : ParcelBits.Statement (.fcvtLuS rd rs1 rm) :=
  ParcelBits.of_opcode (Field.opcode_rType _ _ _ _ _ _) (by decide)
theorem ParcelBits.fcvtSL (rd rs1 : RegId) (rm : BitVec 3) : ParcelBits.Statement (.fcvtSL rd rs1 rm) :=
  ParcelBits.of_opcode (Field.opcode_rType _ _ _ _ _ _) (by decide)
theorem ParcelBits.fcvtSLu (rd rs1 : RegId) (rm : BitVec 3) : ParcelBits.Statement (.fcvtSLu rd rs1 rm) :=
  ParcelBits.of_opcode (Field.opcode_rType _ _ _ _ _ _) (by decide)
theorem ParcelBits.fld (rd rs1 : RegId) (imm : BitVec 12) : ParcelBits.Statement (.fld rd rs1 imm) :=
  ParcelBits.of_opcode (Field.opcode_iType _ _ _ _ _) (by decide)
theorem ParcelBits.fsd (rs1 rs2 : RegId) (imm : BitVec 12) : ParcelBits.Statement (.fsd rs1 rs2 imm) :=
  ParcelBits.of_opcode (Field.opcode_sType _ _ _ _ _) (by decide)
theorem ParcelBits.fmaddD (rd rs1 rs2 rs3 : RegId) (rm : BitVec 3) : ParcelBits.Statement (.fmaddD rd rs1 rs2 rs3 rm) :=
  ParcelBits.of_opcode (Field.opcode_r4Type _ _ _ _ _ _ _) (by decide)
theorem ParcelBits.fmsubD (rd rs1 rs2 rs3 : RegId) (rm : BitVec 3) : ParcelBits.Statement (.fmsubD rd rs1 rs2 rs3 rm) :=
  ParcelBits.of_opcode (Field.opcode_r4Type _ _ _ _ _ _ _) (by decide)
theorem ParcelBits.fnmsubD (rd rs1 rs2 rs3 : RegId) (rm : BitVec 3) : ParcelBits.Statement (.fnmsubD rd rs1 rs2 rs3 rm) :=
  ParcelBits.of_opcode (Field.opcode_r4Type _ _ _ _ _ _ _) (by decide)
theorem ParcelBits.fnmaddD (rd rs1 rs2 rs3 : RegId) (rm : BitVec 3) : ParcelBits.Statement (.fnmaddD rd rs1 rs2 rs3 rm) :=
  ParcelBits.of_opcode (Field.opcode_r4Type _ _ _ _ _ _ _) (by decide)
theorem ParcelBits.faddD (rd rs1 rs2 : RegId) (rm : BitVec 3) : ParcelBits.Statement (.faddD rd rs1 rs2 rm) :=
  ParcelBits.of_opcode (Field.opcode_rType _ _ _ _ _ _) (by decide)
theorem ParcelBits.fsubD (rd rs1 rs2 : RegId) (rm : BitVec 3) : ParcelBits.Statement (.fsubD rd rs1 rs2 rm) :=
  ParcelBits.of_opcode (Field.opcode_rType _ _ _ _ _ _) (by decide)
theorem ParcelBits.fmulD (rd rs1 rs2 : RegId) (rm : BitVec 3) : ParcelBits.Statement (.fmulD rd rs1 rs2 rm) :=
  ParcelBits.of_opcode (Field.opcode_rType _ _ _ _ _ _) (by decide)
theorem ParcelBits.fdivD (rd rs1 rs2 : RegId) (rm : BitVec 3) : ParcelBits.Statement (.fdivD rd rs1 rs2 rm) :=
  ParcelBits.of_opcode (Field.opcode_rType _ _ _ _ _ _) (by decide)
theorem ParcelBits.fsqrtD (rd rs1 : RegId) (rm : BitVec 3) : ParcelBits.Statement (.fsqrtD rd rs1 rm) :=
  ParcelBits.of_opcode (Field.opcode_rType _ _ _ _ _ _) (by decide)
theorem ParcelBits.fsgnjD (rd rs1 rs2 : RegId) : ParcelBits.Statement (.fsgnjD rd rs1 rs2) :=
  ParcelBits.of_opcode (Field.opcode_rType _ _ _ _ _ _) (by decide)
theorem ParcelBits.fsgnjnD (rd rs1 rs2 : RegId) : ParcelBits.Statement (.fsgnjnD rd rs1 rs2) :=
  ParcelBits.of_opcode (Field.opcode_rType _ _ _ _ _ _) (by decide)
theorem ParcelBits.fsgnjxD (rd rs1 rs2 : RegId) : ParcelBits.Statement (.fsgnjxD rd rs1 rs2) :=
  ParcelBits.of_opcode (Field.opcode_rType _ _ _ _ _ _) (by decide)
theorem ParcelBits.fminD (rd rs1 rs2 : RegId) : ParcelBits.Statement (.fminD rd rs1 rs2) :=
  ParcelBits.of_opcode (Field.opcode_rType _ _ _ _ _ _) (by decide)
theorem ParcelBits.fmaxD (rd rs1 rs2 : RegId) : ParcelBits.Statement (.fmaxD rd rs1 rs2) :=
  ParcelBits.of_opcode (Field.opcode_rType _ _ _ _ _ _) (by decide)
theorem ParcelBits.fcvtSD (rd rs1 : RegId) (rm : BitVec 3) : ParcelBits.Statement (.fcvtSD rd rs1 rm) :=
  ParcelBits.of_opcode (Field.opcode_rType _ _ _ _ _ _) (by decide)
theorem ParcelBits.fcvtDS (rd rs1 : RegId) (rm : BitVec 3) : ParcelBits.Statement (.fcvtDS rd rs1 rm) :=
  ParcelBits.of_opcode (Field.opcode_rType _ _ _ _ _ _) (by decide)
theorem ParcelBits.feqD (rd rs1 rs2 : RegId) : ParcelBits.Statement (.feqD rd rs1 rs2) :=
  ParcelBits.of_opcode (Field.opcode_rType _ _ _ _ _ _) (by decide)
theorem ParcelBits.fltD (rd rs1 rs2 : RegId) : ParcelBits.Statement (.fltD rd rs1 rs2) :=
  ParcelBits.of_opcode (Field.opcode_rType _ _ _ _ _ _) (by decide)
theorem ParcelBits.fleD (rd rs1 rs2 : RegId) : ParcelBits.Statement (.fleD rd rs1 rs2) :=
  ParcelBits.of_opcode (Field.opcode_rType _ _ _ _ _ _) (by decide)
theorem ParcelBits.fclassD (rd rs1 : RegId) : ParcelBits.Statement (.fclassD rd rs1) :=
  ParcelBits.of_opcode (Field.opcode_rType _ _ _ _ _ _) (by decide)
theorem ParcelBits.fcvtWD (rd rs1 : RegId) (rm : BitVec 3) : ParcelBits.Statement (.fcvtWD rd rs1 rm) :=
  ParcelBits.of_opcode (Field.opcode_rType _ _ _ _ _ _) (by decide)
theorem ParcelBits.fcvtWuD (rd rs1 : RegId) (rm : BitVec 3) : ParcelBits.Statement (.fcvtWuD rd rs1 rm) :=
  ParcelBits.of_opcode (Field.opcode_rType _ _ _ _ _ _) (by decide)
theorem ParcelBits.fcvtDW (rd rs1 : RegId) (rm : BitVec 3) : ParcelBits.Statement (.fcvtDW rd rs1 rm) :=
  ParcelBits.of_opcode (Field.opcode_rType _ _ _ _ _ _) (by decide)
theorem ParcelBits.fcvtDWu (rd rs1 : RegId) (rm : BitVec 3) : ParcelBits.Statement (.fcvtDWu rd rs1 rm) :=
  ParcelBits.of_opcode (Field.opcode_rType _ _ _ _ _ _) (by decide)
theorem ParcelBits.fcvtLD (rd rs1 : RegId) (rm : BitVec 3) : ParcelBits.Statement (.fcvtLD rd rs1 rm) :=
  ParcelBits.of_opcode (Field.opcode_rType _ _ _ _ _ _) (by decide)
theorem ParcelBits.fcvtLuD (rd rs1 : RegId) (rm : BitVec 3) : ParcelBits.Statement (.fcvtLuD rd rs1 rm) :=
  ParcelBits.of_opcode (Field.opcode_rType _ _ _ _ _ _) (by decide)
theorem ParcelBits.fmvXD (rd rs1 : RegId) : ParcelBits.Statement (.fmvXD rd rs1) :=
  ParcelBits.of_opcode (Field.opcode_rType _ _ _ _ _ _) (by decide)
theorem ParcelBits.fcvtDL (rd rs1 : RegId) (rm : BitVec 3) : ParcelBits.Statement (.fcvtDL rd rs1 rm) :=
  ParcelBits.of_opcode (Field.opcode_rType _ _ _ _ _ _) (by decide)
theorem ParcelBits.fcvtDLu (rd rs1 : RegId) (rm : BitVec 3) : ParcelBits.Statement (.fcvtDLu rd rs1 rm) :=
  ParcelBits.of_opcode (Field.opcode_rType _ _ _ _ _ _) (by decide)
theorem ParcelBits.fmvDX (rd rs1 : RegId) : ParcelBits.Statement (.fmvDX rd rs1) :=
  ParcelBits.of_opcode (Field.opcode_rType _ _ _ _ _ _) (by decide)

end Sys2Proof.Laws
end

