-- ==== Sys2Proof/Laws/Safety.lean ====
section
/-! SUPPORT. What the terms of Safety.lean come to in those of the machine: accesses byte by byte, the word fetched, and the frame of
each shared operation. -/

namespace Sys2Proof.Machine

/-! ## Accesses -/

theorem mem_accessAddrs_iff {a : Word} {n b : Nat} : b ∈ accessAddrs a n ↔ ∃ i < n, b = byteAddr a i := mem_accessAddrs

theorem accessLegal_iff {s : State} {kind : AccessKind} {a : Word} {n : Nat} :
    s.accessLegal kind a n = true ↔ s.BytesLegal kind a n := by
  unfold State.accessLegal
  rw [List.all_eq_true]
  constructor
  · exact fun h i hi => h _ (mem_accessAddrs_iff.2 ⟨i, hi, rfl⟩)
  · intro h b hb
    obtain ⟨i, hi, rfl⟩ := mem_accessAddrs_iff.1 hb
    exact h i hi

theorem accessLegal_eq_false_iff {s : State} {kind : AccessKind} {a : Word} {n : Nat} :
    s.accessLegal kind a n = false ↔ ¬ s.BytesLegal kind a n := by
  rw [← accessLegal_iff, Bool.not_eq_true]

theorem accessIO_eq_false_iff {s : State} {a : Word} {n : Nat} : s.accessIO a n = false ↔ s.BytesPlain a n := by
  unfold State.accessIO
  rw [List.any_eq_false]
  constructor
  · exact fun h i hi => Bool.eq_false_iff.2 (h _ (mem_accessAddrs_iff.2 ⟨i, hi, rfl⟩))
  · intro h b hb
    obtain ⟨i, hi, rfl⟩ := mem_accessAddrs_iff.1 hb
    exact Bool.eq_false_iff.1 (h i hi)

theorem accessIO_iff {s : State} {a : Word} {n : Nat} : s.accessIO a n = true ↔ ¬ s.BytesPlain a n := by
  rw [← accessIO_eq_false_iff, Bool.not_eq_false]

theorem accessDirty_eq_false_iff {s : State} {a : Word} {n : Nat} : s.accessDirty a n = false ↔ s.BytesClean a n := by
  unfold State.accessDirty
  rw [List.any_eq_false]
  constructor
  · exact fun h i hi => by simpa using h _ (mem_accessAddrs_iff.2 ⟨i, hi, rfl⟩)
  · intro h b hb
    obtain ⟨i, hi, rfl⟩ := mem_accessAddrs_iff.1 hb
    simpa using h i hi

theorem accessDirty_iff {s : State} {a : Word} {n : Nat} :
    s.accessDirty a n = true ↔ ∃ i < n, byteAddr a i ∈ s.dirty := by
  rw [← Bool.not_eq_false, accessDirty_eq_false_iff]
  simp [State.BytesClean]

theorem misaligned_eq_false_iff {t : Word} : misaligned t = false ↔ Aligned t := by simp [misaligned]

theorem misaligned_iff {t : Word} : misaligned t = true ↔ ¬ Aligned t := by simp [misaligned]

/-- Adding 4 keeps alignment (R24). -/
theorem Aligned.add_four {t : Word} (h : Aligned t) : Aligned (t + 4#32) := by
  have h' := congrArg BitVec.toNat h
  apply BitVec.eq_of_toNat_eq
  simp only [BitVec.extractLsb'_toNat, BitVec.toNat_add, BitVec.toNat_ofNat, Nat.shiftRight_zero] at h' ⊢
  omega

/-! ## Bytes and words -/

theorem byteAddr_zero (a : Word) : byteAddr a 0 = a.toNat := by simp [byteAddr]

theorem byteAddr_lt (a : Word) (i : Nat) : byteAddr a i < 2 ^ 32 := (a + BitVec.ofNat 32 i).isLt

/-- The bytes of an access of at most 2^32 bytes are at different addresses. -/
theorem byteAddr_inj {a : Word} {i j : Nat} (hi : i < 2 ^ 32) (hj : j < 2 ^ 32) (h : byteAddr a i = byteAddr a j) :
    i = j := by
  have := congrArg BitVec.toNat (BitVec.add_right_inj a |>.1 (BitVec.eq_of_toNat_eq h))
  rwa [BitVec.toNat_ofNat, BitVec.toNat_ofNat, Nat.mod_eq_of_lt hi, Nat.mod_eq_of_lt hj] at this

theorem readBytes_eq_map (m : Memory) (a : Word) (n : Nat) :
    m.readBytes a n = (List.range n).map fun i => m.read (byteAddr a i) := by
  refine List.ext_getElem (by simp) fun i h1 h2 => ?_
  rw [Memory.readBytes_getElem (by simpa using h1)]
  simp [byteAddr]

/-- `MemRead(a, 1)` (R51). -/
theorem readValue_one (s : State) (a : Word) : s.mem.readValue a 1 = s.byteAt a 0 := by
  refine BitVec.eq_of_getLsbD_eq fun k hk => ?_
  unfold Memory.readValue
  rw [readBytes_eq_map]
  simp only [List.range_succ, List.range_zero, List.nil_append, List.map_cons, List.map_nil, wordOfBytes,
    BitVec.getLsbD_setWidth, BitVec.getLsbD_or, getLsbD_place, BitVec.getLsbD_shiftLeft, State.byteAt]
  interval_cases k <;> simp

/-- `MemRead(a, 2)` (R51). -/
theorem readValue_two (s : State) (a : Word) : s.mem.readValue a 2 = s.byteAt a 1 ++ s.byteAt a 0 := by
  refine BitVec.eq_of_getLsbD_eq fun k hk => ?_
  unfold Memory.readValue
  rw [readBytes_eq_map]
  simp only [List.range_succ, List.range_zero, List.nil_append, List.cons_append, List.map_cons, List.map_nil, wordOfBytes,
    BitVec.getLsbD_setWidth, BitVec.getLsbD_or, getLsbD_place, BitVec.getLsbD_shiftLeft, State.byteAt,
    BitVec.getLsbD_append]
  interval_cases k <;> simp [BitVec.getLsbD_of_ge]

/-- `MemRead(a, 4)` (R51). -/
theorem readValue_four (s : State) (a : Word) :
    s.mem.readValue a 4 = s.byteAt a 3 ++ s.byteAt a 2 ++ s.byteAt a 1 ++ s.byteAt a 0 := by
  refine BitVec.eq_of_getLsbD_eq fun k hk => ?_
  unfold Memory.readValue
  rw [readBytes_eq_map]
  simp only [List.range_succ, List.range_zero, List.nil_append, List.cons_append, List.map_cons, List.map_nil, wordOfBytes,
    BitVec.getLsbD_setWidth, BitVec.getLsbD_or, getLsbD_place, BitVec.getLsbD_shiftLeft, State.byteAt,
    BitVec.getLsbD_append]
  interval_cases k <;> simp [BitVec.getLsbD_of_ge]

/-- The word of the fetch (R52). -/
theorem readValue_pc (s : State) : s.mem.readValue s.pc 4 = s.fetchedWord := readValue_four s s.pc

/-! ## The step -/

/-- A step whose fetch nothing stops decodes and executes the word fetched. -/
theorem step_of_ready {s : State} (h : s.FetchReady) : step s = runWord s s.fetchedWord := by
  obtain ⟨ha, hl, hp, hc⟩ := h
  rw [← readValue_pc]
  exact fetchThen_of_open (misaligned_eq_false_iff.2 ha) (accessLegal_iff.2 hl) (accessIO_eq_false_iff.2 hp)
    (accessDirty_eq_false_iff.2 hc)

/-- An instruction is refused only when it is a load or store with an I/O byte in its own access. -/
theorem exec_refused {i : Instr} {s : State} {why : Refusal} (h : exec i s = .refused why) :
    ∃ rs1 imm n, (loadAccess i = some (rs1, imm, n) ∨ storeAccess i = some (rs1, imm, n)) ∧
      why = .ioAccess (effectiveAddr s rs1 imm) ∧ ¬ s.BytesPlain (effectiveAddr s rs1 imm) n := by
  cases i <;> simp only [exec] at h
  case jal | jalr => exact absurd h (jumpAndLink_ne_refused _ _ s why)
  case beq | bne | blt | bge | bltu | bgeu => exact absurd h (branchIf_ne_refused _ _ s why)
  case lb | lh | lw | lbu | lhu =>
    obtain ⟨-, hio, hw⟩ := loadInto_refused.1 h
    exact ⟨_, _, _, .inl rfl, hw, accessIO_iff.1 hio⟩
  case sb | sh | sw =>
    obtain ⟨-, hio, hw⟩ := storeFrom_refused.1 h
    exact ⟨_, _, _, .inr rfl, hw, accessIO_iff.1 hio⟩
  case csrrw | csrrs | csrrc | csrrwi | csrrsi | csrrci => exact absurd h (csrAccess_ne_refused _ _ _ _ _ _ s why)
  all_goals cases h

theorem step_of_decode {s : State} {i : Instr} (h : s.FetchReady) (hi : decode s.fetchedWord = .ok i) :
    step s = exec i s := by simp [step_of_ready h, runWord, hi]

/-- A step is one of: a misaligned pc; a byte not legal; I/O; Dirty; or the word fetched, decoded and executed. -/
theorem step_cases (s : State) :
    (¬ Aligned s.pc ∧ step s = .fault (.instructionAddressMisaligned s.pc s.pc)) ∨
    (Aligned s.pc ∧ ¬ s.BytesLegal .fetch s.pc 4 ∧ step s = .fault (.instructionAccessFault s.pc s.pc)) ∨
    (Aligned s.pc ∧ s.BytesLegal .fetch s.pc 4 ∧ ¬ s.BytesPlain s.pc 4 ∧ step s = .refused (.ioAccess s.pc)) ∨
    (Aligned s.pc ∧ s.BytesLegal .fetch s.pc 4 ∧ s.BytesPlain s.pc 4 ∧ ¬ s.BytesClean s.pc 4 ∧
      step s = .refused (.dirtyFetch s.pc)) ∨
    (s.FetchReady ∧ step s = runWord s s.fetchedWord) := by
  by_cases ha : Aligned s.pc
  · by_cases hl : s.BytesLegal .fetch s.pc 4
    · by_cases hp : s.BytesPlain s.pc 4
      · by_cases hc : s.BytesClean s.pc 4
        · exact .inr (.inr (.inr (.inr ⟨⟨ha, hl, hp, hc⟩, step_of_ready ⟨ha, hl, hp, hc⟩⟩)))
        · refine .inr (.inr (.inr (.inl ⟨ha, hl, hp, hc, ?_⟩)))
          have hd : s.accessDirty s.pc 4 = true := by
            rw [← Bool.not_eq_false, accessDirty_eq_false_iff]; exact hc
          simp [step, fetchThen, misaligned_eq_false_iff.2 ha, accessLegal_iff.2 hl, accessIO_eq_false_iff.2 hp, hd]
      · refine .inr (.inr (.inl ⟨ha, hl, hp, ?_⟩))
        simp [step, fetchThen, misaligned_eq_false_iff.2 ha, accessLegal_iff.2 hl, accessIO_iff.2 hp]
    · refine .inr (.inl ⟨ha, hl, ?_⟩)
      simp [step, fetchThen, misaligned_eq_false_iff.2 ha, accessLegal_eq_false_iff.2 hl, raise]
  · refine .inl ⟨ha, ?_⟩
    simp [step, fetchThen, misaligned_iff.2 ha, raise]

/-! ## Frames -/

theorem writesReg_retireTo (s : State) (rd : RegId) (v target : Word) :
    WritesReg s ((s.writeReg rd v).retireTo target) rd v target where
  value h := by simp [h]
  zero := by simp
  others r h := by simp [State.reg_writeReg_ne, h]
  pc := rfl
  instret := rfl
  cycle := rfl
  time := rfl
  memory _ := rfl
  dirty := rfl
  regions := rfl
  draws := rfl

theorem writesReg_retire (s : State) (rd : RegId) (v : Word) :
    WritesReg s (s.writeReg rd v).retire rd v (s.pc + 4#32) := writesReg_retireTo s rd v (s.pc + 4#32)

theorem onlyAdvances_retireTo (s : State) (target : Word) : OnlyAdvances s (s.retireTo target) target where
  regs _ := rfl
  pc := rfl
  instret := rfl
  cycle := rfl
  time := rfl
  memory _ := rfl
  dirty := rfl
  regions := rfl
  draws := rfl

theorem onlyAdvances_retire (s : State) : OnlyAdvances s s.retire (s.pc + 4#32) := onlyAdvances_retireTo s _

/-- An instruction whose meaning is a result in rd yields it. -/
theorem yields_of_retireWith {i : Instr} {s : State} {rd : RegId} {v : Word} (h : exec i s = retireWith rd v s) :
    Yields i s rd v := ⟨_, h, writesReg_retire s rd v⟩

theorem bytesOfWord_getElem {n : Nat} (hn : n ≤ 4) (v : Word) {i : Nat} (hi : i < n) :
    (bytesOfWord n v)[i]'(by simpa using hi) = v.extractLsb' (8 * i) 8 := by
  induction n generalizing v i with
  | zero => omega
  | succ n ih =>
    cases i with
    | zero => rfl
    | succ i =>
      have := ih (by omega) (v >>> 8) (i := i) (by omega)
      simp only [bytesOfWord, List.getElem_cons_succ, this]
      refine BitVec.eq_of_getLsbD_eq fun k hk => ?_
      simp only [BitVec.getLsbD_extractLsb', BitVec.getLsbD_ushiftRight]
      congr 2
      omega

theorem writesBytes_stored {s : State} (h : s.mem.wf) (ea : Word) {n : Nat} (hn : n ≤ 4) (v : Word) :
    WritesBytes s (s.stored ea n v).retire ea n v (s.pc + 4#32) where
  stored i hi := by
    have := Memory.read_writeBytes h.1 (a := ea) (bs := bytesOfWord n v) (by simp; omega) (i := i) (by simpa using hi)
    rw [bytesOfWord_getElem hn v hi] at this
    exact this
  others a ha := Memory.read_writeValue_of_not_mem h fun hm => by
    obtain ⟨i, hi, e⟩ := mem_accessAddrs_iff.1 hm
    exact ha i hi e
  dirty a := by simp [mem_accessAddrs_iff, or_comm]
  regs _ := rfl
  pc := rfl
  instret := rfl
  cycle := rfl
  time := rfl
  regions := rfl
  draws := rfl

/-- A meaning that is a load loads. -/
theorem loads_of_loadInto {i : Instr} {s : State} {rd : RegId} {ea : Word} {n : Nat} {v : Word}
    (h : exec i s = loadInto rd ea n v s) : Loads i s rd ea n v := by
  refine ⟨fun hl hp => ?_, fun hl => ?_⟩
  · exact ⟨_, h.trans (loadInto_next.2 ⟨accessLegal_iff.2 hl, accessIO_eq_false_iff.2 hp, rfl⟩), writesReg_retire s rd v⟩
  · exact h.trans (loadInto_fault.2 ⟨accessLegal_eq_false_iff.2 hl, rfl⟩)

/-- A meaning that is a store stores. -/
theorem stores_of_storeFrom {i : Instr} {s : State} {ea : Word} {n : Nat} {v : Word} (hm : s.mem.wf) (hn : n ≤ 4)
    (h : exec i s = storeFrom ea n v s) : Stores i s ea n v := by
  refine ⟨fun hl hp => ?_, fun hl => ?_⟩
  · exact ⟨_, h.trans (storeFrom_next.2 ⟨accessLegal_iff.2 hl, accessIO_eq_false_iff.2 hp, rfl⟩),
      writesBytes_stored hm ea hn v⟩
  · exact h.trans (storeFrom_fault.2 ⟨accessLegal_eq_false_iff.2 hl, rfl⟩)

/-- A meaning that is a branch branches. -/
theorem branches_of_branchIf {i : Instr} {s : State} {c : Prop} {taken : Bool} {target : Word} (hc : taken = true ↔ c)
    (h : exec i s = branchIf taken target s) : Branches i s c target := by
  refine ⟨fun hh ha => ?_, fun hh ha => ?_, fun hh => ?_⟩
  · exact ⟨_, h.trans (branchIf_next.2 (.inl ⟨hc.2 hh, misaligned_eq_false_iff.2 ha, rfl⟩)), onlyAdvances_retireTo s target⟩
  · exact h.trans (branchIf_fault.2 ⟨hc.2 hh, misaligned_iff.2 ha, rfl⟩)
  · have hf : taken = false := by rw [← Bool.not_eq_true, hc]; exact hh
    exact ⟨_, h.trans (branchIf_next.2 (.inr ⟨hf, rfl⟩)), onlyAdvances_retire s⟩

/-! ## Runs -/

/-- A property every step keeps holds of every state a run reaches, traps at, or is refused at. -/
theorem run_keeps {P : State → Prop} (hP : ∀ s t, P s → step s = .next t → P t) (k : Nat) {s : State} (hs : P s) :
    (∀ t, run k s = .running t → P t) ∧ (∀ r t, run k s = .trapped r t → P t) ∧ (∀ why t, run k s = .refused why t → P t) := by
  induction k generalizing s with
  | zero => simp_all [run]
  | succ k ih =>
    unfold run
    split
    · exact ih (hP _ _ hs ‹_›)
    · simp_all
    · simp_all

end Sys2Proof.Machine
end

