-- ==== Sys2Proof/Tests/Slice0.lean ====
section
/-! SUPPORT. Tests: words written out from the encodings of 30_encoding.md and 47_listed_only.md, single steps whose
expected results are the rows of tables V1 to V9 of 95_test_vectors.md (or the rule named), and for every statement
with hypotheses a state and operands that meet them. -/

namespace Sys2Proof.Tests

open Sys2Proof Sys2Proof.Machine

/-! ## The state of 95_test_vectors.md, part 2 -/

/-- 0x1000 to 0x1FFF legal for fetch only, 0x2000 to 0x2FFF for loads and stores only. -/
def regions : List Region :=
  [{ base := 0x1000, size := 0x1000, kind := .plain, fetch := true, load := false, store := false },
   { base := 0x2000, size := 0x1000, kind := .plain, fetch := false, load := true, store := true }]

/-- The bytes at 0x2000 to 0x2007. -/
def dataBytes : Memory :=
  [(0x2000, 0x80#8), (0x2001, 0x81#8), (0x2002, 0x82#8), (0x2003, 0x83#8),
   (0x2004, 0x04#8), (0x2005, 0x05#8), (0x2006, 0x06#8), (0x2007, 0x07#8)]

/-- pc = 0x1000, instret = 100, every register 0, nothing Dirty. -/
def base : State := { State.reset with pc := 0x1000#32, instret := 100#64, regions := regions, mem := dataBytes }

/-- Some registers set. -/
def setRegs (s : State) (regs : List (RegId × Word)) : State := regs.foldl (fun t r => t.writeReg r.1 r.2) s

/-- The word `w` at the pc of the vectors' state, with some registers set. -/
def start (regs : List (RegId × Word)) (w : Nat) : State := (setRegs base regs).withFetchWord 32 w

/-- The state after one step, if it completes. -/
def after (s : State) : Option State :=
  match step s with
  | .next t => some t
  | .fault _ => none
  | .refused _ => none

/-- The record of one step, if it raises. -/
def trap (s : State) : Option Fault :=
  match step s with
  | .next _ => none
  | .fault r => some r
  | .refused _ => none

/-- Register `r`, the pc and instret after one step. -/
def gives (s : State) (r : RegId) : Option (Word × Word × Counter) := (after s).map fun t => (t.reg r, t.pc, t.instret)

/-- Some bytes of memory, the Dirty set and the pc after one step. -/
def bytesAfter (s : State) (as : List Nat) : Option (List Byte × AddrSet × Word) :=
  (after s).map fun t => (as.map t.mem.read, t.dirty, t.pc)

theorem exists_next_of_after {s : State} (h : (after s).isSome = true) : ∃ t, step s = .next t := by
  unfold after at h
  split at h
  · exact ⟨_, ‹_›⟩
  · simp at h
  · simp at h

theorem next_of_after {s t : State} (h : after s = some t) : step s = .next t := by
  unfold after at h
  split at h
  · simp_all
  · simp at h
  · simp at h

theorem fault_of_trap {s : State} {r : Fault} (h : trap s = some r) : step s = .fault r := by
  unfold trap at h
  split at h
  · simp at h
  · simp_all
  · simp at h

theorem decode_of_row {w : Word} {i : Instr} (h : decodeRow w = some i) : decode w = .ok i := by simp [decode, h]

/-! ## WellFormed: an ill-formed term for each check -/

/-- A branch offset is even (R91). -/
theorem test_wf_refuses_odd_branch_offset : (Instr.beq 1#5 2#5 7#13).wf = false := by decide

/-- A JAL offset is even (R93). -/
theorem test_wf_refuses_odd_jump_offset : (Instr.jal 1#5 0x100001#21).wf = false := by decide

/-- A 6-bit shift amount below 32 is the RV32I shift's (R94, C14). -/
theorem test_wf_refuses_small_rv64_shift : (Instr.slliRv64 1#5 2#5 31#6).wf = false := by decide

/-! ## Decode: one word for every constructor, its fields written out from the spec's encoding

rd = 5, rs1 = 6, rs2 = 7, rs3 = 8; the 12-bit immediate 0xA53, the branch offset 1 0 110101 0110 0 (bits 12, 11, 10 to 5,
4 to 1, 0), the JAL offset 1 00110101 1 0100111001 0 (bits 20, 19 to 12, 11, 10 to 1, 0). -/

/-- R130, R131 (U), R121 to R129 (I), R132 to R141 (R). -/
theorem test_decode_integer :
    decodeRow (0x9A5C3#20 ++ 5#5 ++ 0b0110111#7) = some (.lui 5#5 0x9A5C3#20) ∧
    decodeRow (0x9A5C3#20 ++ 5#5 ++ 0b0010111#7) = some (.auipc 5#5 0x9A5C3#20) ∧
    decodeRow (0xA53#12 ++ 6#5 ++ 0b000#3 ++ 5#5 ++ 0b0010011#7) = some (.addi 5#5 6#5 0xA53#12) ∧
    decodeRow (0xA53#12 ++ 6#5 ++ 0b010#3 ++ 5#5 ++ 0b0010011#7) = some (.slti 5#5 6#5 0xA53#12) ∧
    decodeRow (0xA53#12 ++ 6#5 ++ 0b011#3 ++ 5#5 ++ 0b0010011#7) = some (.sltiu 5#5 6#5 0xA53#12) ∧
    decodeRow (0xA53#12 ++ 6#5 ++ 0b100#3 ++ 5#5 ++ 0b0010011#7) = some (.xori 5#5 6#5 0xA53#12) ∧
    decodeRow (0xA53#12 ++ 6#5 ++ 0b110#3 ++ 5#5 ++ 0b0010011#7) = some (.ori 5#5 6#5 0xA53#12) ∧
    decodeRow (0xA53#12 ++ 6#5 ++ 0b111#3 ++ 5#5 ++ 0b0010011#7) = some (.andi 5#5 6#5 0xA53#12) ∧
    decodeRow (0b0000000#7 ++ 13#5 ++ 6#5 ++ 0b001#3 ++ 5#5 ++ 0b0010011#7) = some (.slli 5#5 6#5 13#5) ∧
    decodeRow (0b0000000#7 ++ 13#5 ++ 6#5 ++ 0b101#3 ++ 5#5 ++ 0b0010011#7) = some (.srli 5#5 6#5 13#5) ∧
    decodeRow (0b0100000#7 ++ 13#5 ++ 6#5 ++ 0b101#3 ++ 5#5 ++ 0b0010011#7) = some (.srai 5#5 6#5 13#5) ∧
    decodeRow (0b0000000#7 ++ 7#5 ++ 6#5 ++ 0b000#3 ++ 5#5 ++ 0b0110011#7) = some (.add 5#5 6#5 7#5) ∧
    decodeRow (0b0100000#7 ++ 7#5 ++ 6#5 ++ 0b000#3 ++ 5#5 ++ 0b0110011#7) = some (.sub 5#5 6#5 7#5) ∧
    decodeRow (0b0000000#7 ++ 7#5 ++ 6#5 ++ 0b001#3 ++ 5#5 ++ 0b0110011#7) = some (.sll 5#5 6#5 7#5) ∧
    decodeRow (0b0000000#7 ++ 7#5 ++ 6#5 ++ 0b010#3 ++ 5#5 ++ 0b0110011#7) = some (.slt 5#5 6#5 7#5) ∧
    decodeRow (0b0000000#7 ++ 7#5 ++ 6#5 ++ 0b011#3 ++ 5#5 ++ 0b0110011#7) = some (.sltu 5#5 6#5 7#5) ∧
    decodeRow (0b0000000#7 ++ 7#5 ++ 6#5 ++ 0b100#3 ++ 5#5 ++ 0b0110011#7) = some (.xor 5#5 6#5 7#5) ∧
    decodeRow (0b0000000#7 ++ 7#5 ++ 6#5 ++ 0b101#3 ++ 5#5 ++ 0b0110011#7) = some (.srl 5#5 6#5 7#5) ∧
    decodeRow (0b0100000#7 ++ 7#5 ++ 6#5 ++ 0b101#3 ++ 5#5 ++ 0b0110011#7) = some (.sra 5#5 6#5 7#5) ∧
    decodeRow (0b0000000#7 ++ 7#5 ++ 6#5 ++ 0b110#3 ++ 5#5 ++ 0b0110011#7) = some (.or 5#5 6#5 7#5) ∧
    decodeRow (0b0000000#7 ++ 7#5 ++ 6#5 ++ 0b111#3 ++ 5#5 ++ 0b0110011#7) = some (.and 5#5 6#5 7#5) := by
  decide

/-- R86, R88, R91, R93, R151 to R158. -/
theorem test_decode_control :
    decodeRow (0b1#1 ++ 0b0100111001#10 ++ 0b1#1 ++ 0b00110101#8 ++ 5#5 ++ 0b1101111#7) = some (.jal 5#5 0b100110101101001110010#21) ∧
    decodeRow (0xA53#12 ++ 6#5 ++ 0b000#3 ++ 5#5 ++ 0b1100111#7) = some (.jalr 5#5 6#5 0xA53#12) ∧
    decodeRow (0b1#1 ++ 0b110101#6 ++ 7#5 ++ 6#5 ++ 0b000#3 ++ 0b0110#4 ++ 0b0#1 ++ 0b1100011#7) = some (.beq 6#5 7#5 0b1011010101100#13) ∧
    decodeRow (0b1#1 ++ 0b110101#6 ++ 7#5 ++ 6#5 ++ 0b001#3 ++ 0b0110#4 ++ 0b0#1 ++ 0b1100011#7) = some (.bne 6#5 7#5 0b1011010101100#13) ∧
    decodeRow (0b1#1 ++ 0b110101#6 ++ 7#5 ++ 6#5 ++ 0b100#3 ++ 0b0110#4 ++ 0b0#1 ++ 0b1100011#7) = some (.blt 6#5 7#5 0b1011010101100#13) ∧
    decodeRow (0b1#1 ++ 0b110101#6 ++ 7#5 ++ 6#5 ++ 0b101#3 ++ 0b0110#4 ++ 0b0#1 ++ 0b1100011#7) = some (.bge 6#5 7#5 0b1011010101100#13) ∧
    decodeRow (0b1#1 ++ 0b110101#6 ++ 7#5 ++ 6#5 ++ 0b110#3 ++ 0b0110#4 ++ 0b0#1 ++ 0b1100011#7) = some (.bltu 6#5 7#5 0b1011010101100#13) ∧
    decodeRow (0b1#1 ++ 0b110101#6 ++ 7#5 ++ 6#5 ++ 0b111#3 ++ 0b0110#4 ++ 0b0#1 ++ 0b1100011#7) = some (.bgeu 6#5 7#5 0b1011010101100#13) := by
  decide

/-- R84, R85, R171 to R178. -/
theorem test_decode_load_store :
    decodeRow (0xA53#12 ++ 6#5 ++ 0b000#3 ++ 5#5 ++ 0b0000011#7) = some (.lb 5#5 6#5 0xA53#12) ∧
    decodeRow (0xA53#12 ++ 6#5 ++ 0b001#3 ++ 5#5 ++ 0b0000011#7) = some (.lh 5#5 6#5 0xA53#12) ∧
    decodeRow (0xA53#12 ++ 6#5 ++ 0b010#3 ++ 5#5 ++ 0b0000011#7) = some (.lw 5#5 6#5 0xA53#12) ∧
    decodeRow (0xA53#12 ++ 6#5 ++ 0b100#3 ++ 5#5 ++ 0b0000011#7) = some (.lbu 5#5 6#5 0xA53#12) ∧
    decodeRow (0xA53#12 ++ 6#5 ++ 0b101#3 ++ 5#5 ++ 0b0000011#7) = some (.lhu 5#5 6#5 0xA53#12) ∧
    decodeRow (0b1010010#7 ++ 7#5 ++ 6#5 ++ 0b000#3 ++ 0b10011#5 ++ 0b0100011#7) = some (.sb 6#5 7#5 0xA53#12) ∧
    decodeRow (0b1010010#7 ++ 7#5 ++ 6#5 ++ 0b001#3 ++ 0b10011#5 ++ 0b0100011#7) = some (.sh 6#5 7#5 0xA53#12) ∧
    decodeRow (0b1010010#7 ++ 7#5 ++ 6#5 ++ 0b010#3 ++ 0b10011#5 ++ 0b0100011#7) = some (.sw 6#5 7#5 0xA53#12) := by
  decide

/-- R96, R190, R191. -/
theorem test_decode_fence :
    decodeRow (0#4 ++ 0b1010#4 ++ 0b0101#4 ++ 0#5 ++ 0b000#3 ++ 0#5 ++ 0b0001111#7) = some (.fence 0b1010#4 0b0101#4) ∧
    decodeRow (0#12 ++ 0#5 ++ 0b001#3 ++ 0#5 ++ 0b0001111#7) = some (.fenceI) := by
  decide

/-- R97, R230, R231. -/
theorem test_decode_environment :
    decodeRow (0b000000000000#12 ++ 0#5 ++ 0b000#3 ++ 0#5 ++ 0b1110011#7) = some (.ecall) ∧
    decodeRow (0b000000000001#12 ++ 0#5 ++ 0b000#3 ++ 0#5 ++ 0b1110011#7) = some (.ebreak) := by
  decide

/-- R95, R201 to R206. -/
theorem test_decode_csr :
    decodeRow (0xC02#12 ++ 6#5 ++ 0b001#3 ++ 5#5 ++ 0b1110011#7) = some (.csrrw 5#5 0xC02#12 6#5) ∧
    decodeRow (0xC02#12 ++ 6#5 ++ 0b010#3 ++ 5#5 ++ 0b1110011#7) = some (.csrrs 5#5 0xC02#12 6#5) ∧
    decodeRow (0xC02#12 ++ 6#5 ++ 0b011#3 ++ 5#5 ++ 0b1110011#7) = some (.csrrc 5#5 0xC02#12 6#5) ∧
    decodeRow (0xC02#12 ++ 9#5 ++ 0b101#3 ++ 5#5 ++ 0b1110011#7) = some (.csrrwi 5#5 0xC02#12 9#5) ∧
    decodeRow (0xC02#12 ++ 9#5 ++ 0b110#3 ++ 5#5 ++ 0b1110011#7) = some (.csrrsi 5#5 0xC02#12 9#5) ∧
    decodeRow (0xC02#12 ++ 9#5 ++ 0b111#3 ++ 5#5 ++ 0b1110011#7) = some (.csrrci 5#5 0xC02#12 9#5) := by
  decide

/-- R240 to R248. -/
theorem test_decode_mul_div :
    decodeRow (0b0000001#7 ++ 7#5 ++ 6#5 ++ 0b000#3 ++ 5#5 ++ 0b0110011#7) = some (.mul 5#5 6#5 7#5) ∧
    decodeRow (0b0000001#7 ++ 7#5 ++ 6#5 ++ 0b001#3 ++ 5#5 ++ 0b0110011#7) = some (.mulh 5#5 6#5 7#5) ∧
    decodeRow (0b0000001#7 ++ 7#5 ++ 6#5 ++ 0b010#3 ++ 5#5 ++ 0b0110011#7) = some (.mulhsu 5#5 6#5 7#5) ∧
    decodeRow (0b0000001#7 ++ 7#5 ++ 6#5 ++ 0b011#3 ++ 5#5 ++ 0b0110011#7) = some (.mulhu 5#5 6#5 7#5) ∧
    decodeRow (0b0000001#7 ++ 7#5 ++ 6#5 ++ 0b100#3 ++ 5#5 ++ 0b0110011#7) = some (.div 5#5 6#5 7#5) ∧
    decodeRow (0b0000001#7 ++ 7#5 ++ 6#5 ++ 0b101#3 ++ 5#5 ++ 0b0110011#7) = some (.divu 5#5 6#5 7#5) ∧
    decodeRow (0b0000001#7 ++ 7#5 ++ 6#5 ++ 0b110#3 ++ 5#5 ++ 0b0110011#7) = some (.rem 5#5 6#5 7#5) ∧
    decodeRow (0b0000001#7 ++ 7#5 ++ 6#5 ++ 0b111#3 ++ 5#5 ++ 0b0110011#7) = some (.remu 5#5 6#5 7#5) := by
  decide

/-- table R270-T. -/
theorem test_decode_rv64i :
    decodeRow (0xA53#12 ++ 6#5 ++ 0b110#3 ++ 5#5 ++ 0b0000011#7) = some (.lwu 5#5 6#5 0xA53#12) ∧
    decodeRow (0xA53#12 ++ 6#5 ++ 0b011#3 ++ 5#5 ++ 0b0000011#7) = some (.ld 5#5 6#5 0xA53#12) ∧
    decodeRow (0b1010010#7 ++ 7#5 ++ 6#5 ++ 0b011#3 ++ 0b10011#5 ++ 0b0100011#7) = some (.sd 6#5 7#5 0xA53#12) ∧
    decodeRow (0b000000#6 ++ 45#6 ++ 6#5 ++ 0b001#3 ++ 5#5 ++ 0b0010011#7) = some (.slliRv64 5#5 6#5 45#6) ∧
    decodeRow (0b000000#6 ++ 45#6 ++ 6#5 ++ 0b101#3 ++ 5#5 ++ 0b0010011#7) = some (.srliRv64 5#5 6#5 45#6) ∧
    decodeRow (0b010000#6 ++ 45#6 ++ 6#5 ++ 0b101#3 ++ 5#5 ++ 0b0010011#7) = some (.sraiRv64 5#5 6#5 45#6) ∧
    decodeRow (0xA53#12 ++ 6#5 ++ 0b000#3 ++ 5#5 ++ 0b0011011#7) = some (.addiw 5#5 6#5 0xA53#12) ∧
    decodeRow (0b0000000#7 ++ 13#5 ++ 6#5 ++ 0b001#3 ++ 5#5 ++ 0b0011011#7) = some (.slliw 5#5 6#5 13#5) ∧
    decodeRow (0b0000000#7 ++ 13#5 ++ 6#5 ++ 0b101#3 ++ 5#5 ++ 0b0011011#7) = some (.srliw 5#5 6#5 13#5) ∧
    decodeRow (0b0100000#7 ++ 13#5 ++ 6#5 ++ 0b101#3 ++ 5#5 ++ 0b0011011#7) = some (.sraiw 5#5 6#5 13#5) ∧
    decodeRow (0b0000000#7 ++ 7#5 ++ 6#5 ++ 0b000#3 ++ 5#5 ++ 0b0111011#7) = some (.addw 5#5 6#5 7#5) ∧
    decodeRow (0b0100000#7 ++ 7#5 ++ 6#5 ++ 0b000#3 ++ 5#5 ++ 0b0111011#7) = some (.subw 5#5 6#5 7#5) ∧
    decodeRow (0b0000000#7 ++ 7#5 ++ 6#5 ++ 0b001#3 ++ 5#5 ++ 0b0111011#7) = some (.sllw 5#5 6#5 7#5) ∧
    decodeRow (0b0000000#7 ++ 7#5 ++ 6#5 ++ 0b101#3 ++ 5#5 ++ 0b0111011#7) = some (.srlw 5#5 6#5 7#5) ∧
    decodeRow (0b0100000#7 ++ 7#5 ++ 6#5 ++ 0b101#3 ++ 5#5 ++ 0b0111011#7) = some (.sraw 5#5 6#5 7#5) := by
  decide

/-- R252 to R256. -/
theorem test_decode_rv64m :
    decodeRow (0b0000001#7 ++ 7#5 ++ 6#5 ++ 0b000#3 ++ 5#5 ++ 0b0111011#7) = some (.mulw 5#5 6#5 7#5) ∧
    decodeRow (0b0000001#7 ++ 7#5 ++ 6#5 ++ 0b100#3 ++ 5#5 ++ 0b0111011#7) = some (.divw 5#5 6#5 7#5) ∧
    decodeRow (0b0000001#7 ++ 7#5 ++ 6#5 ++ 0b101#3 ++ 5#5 ++ 0b0111011#7) = some (.divuw 5#5 6#5 7#5) ∧
    decodeRow (0b0000001#7 ++ 7#5 ++ 6#5 ++ 0b110#3 ++ 5#5 ++ 0b0111011#7) = some (.remw 5#5 6#5 7#5) ∧
    decodeRow (0b0000001#7 ++ 7#5 ++ 6#5 ++ 0b111#3 ++ 5#5 ++ 0b0111011#7) = some (.remuw 5#5 6#5 7#5) := by
  decide

/-- table R271-T. -/
theorem test_decode_rv32a :
    decodeRow (0b00010#5 ++ 1#1 ++ 0#1 ++ 0b00000#5 ++ 6#5 ++ 0b010#3 ++ 5#5 ++ 0b0101111#7) = some (.lrW 5#5 6#5 1#1 0#1) ∧
    decodeRow (0b00011#5 ++ 1#1 ++ 0#1 ++ 7#5 ++ 6#5 ++ 0b010#3 ++ 5#5 ++ 0b0101111#7) = some (.scW 5#5 6#5 7#5 1#1 0#1) ∧
    decodeRow (0b00001#5 ++ 1#1 ++ 0#1 ++ 7#5 ++ 6#5 ++ 0b010#3 ++ 5#5 ++ 0b0101111#7) = some (.amoswapW 5#5 6#5 7#5 1#1 0#1) ∧
    decodeRow (0b00000#5 ++ 1#1 ++ 0#1 ++ 7#5 ++ 6#5 ++ 0b010#3 ++ 5#5 ++ 0b0101111#7) = some (.amoaddW 5#5 6#5 7#5 1#1 0#1) ∧
    decodeRow (0b00100#5 ++ 1#1 ++ 0#1 ++ 7#5 ++ 6#5 ++ 0b010#3 ++ 5#5 ++ 0b0101111#7) = some (.amoxorW 5#5 6#5 7#5 1#1 0#1) ∧
    decodeRow (0b01100#5 ++ 1#1 ++ 0#1 ++ 7#5 ++ 6#5 ++ 0b010#3 ++ 5#5 ++ 0b0101111#7) = some (.amoandW 5#5 6#5 7#5 1#1 0#1) ∧
    decodeRow (0b01000#5 ++ 1#1 ++ 0#1 ++ 7#5 ++ 6#5 ++ 0b010#3 ++ 5#5 ++ 0b0101111#7) = some (.amoorW 5#5 6#5 7#5 1#1 0#1) ∧
    decodeRow (0b10000#5 ++ 1#1 ++ 0#1 ++ 7#5 ++ 6#5 ++ 0b010#3 ++ 5#5 ++ 0b0101111#7) = some (.amominW 5#5 6#5 7#5 1#1 0#1) ∧
    decodeRow (0b10100#5 ++ 1#1 ++ 0#1 ++ 7#5 ++ 6#5 ++ 0b010#3 ++ 5#5 ++ 0b0101111#7) = some (.amomaxW 5#5 6#5 7#5 1#1 0#1) ∧
    decodeRow (0b11000#5 ++ 1#1 ++ 0#1 ++ 7#5 ++ 6#5 ++ 0b010#3 ++ 5#5 ++ 0b0101111#7) = some (.amominuW 5#5 6#5 7#5 1#1 0#1) ∧
    decodeRow (0b11100#5 ++ 1#1 ++ 0#1 ++ 7#5 ++ 6#5 ++ 0b010#3 ++ 5#5 ++ 0b0101111#7) = some (.amomaxuW 5#5 6#5 7#5 1#1 0#1) := by
  decide

/-- table R272-T. -/
theorem test_decode_rv64a :
    decodeRow (0b00010#5 ++ 1#1 ++ 0#1 ++ 0b00000#5 ++ 6#5 ++ 0b011#3 ++ 5#5 ++ 0b0101111#7) = some (.lrD 5#5 6#5 1#1 0#1) ∧
    decodeRow (0b00011#5 ++ 1#1 ++ 0#1 ++ 7#5 ++ 6#5 ++ 0b011#3 ++ 5#5 ++ 0b0101111#7) = some (.scD 5#5 6#5 7#5 1#1 0#1) ∧
    decodeRow (0b00001#5 ++ 1#1 ++ 0#1 ++ 7#5 ++ 6#5 ++ 0b011#3 ++ 5#5 ++ 0b0101111#7) = some (.amoswapD 5#5 6#5 7#5 1#1 0#1) ∧
    decodeRow (0b00000#5 ++ 1#1 ++ 0#1 ++ 7#5 ++ 6#5 ++ 0b011#3 ++ 5#5 ++ 0b0101111#7) = some (.amoaddD 5#5 6#5 7#5 1#1 0#1) ∧
    decodeRow (0b00100#5 ++ 1#1 ++ 0#1 ++ 7#5 ++ 6#5 ++ 0b011#3 ++ 5#5 ++ 0b0101111#7) = some (.amoxorD 5#5 6#5 7#5 1#1 0#1) ∧
    decodeRow (0b01100#5 ++ 1#1 ++ 0#1 ++ 7#5 ++ 6#5 ++ 0b011#3 ++ 5#5 ++ 0b0101111#7) = some (.amoandD 5#5 6#5 7#5 1#1 0#1) ∧
    decodeRow (0b01000#5 ++ 1#1 ++ 0#1 ++ 7#5 ++ 6#5 ++ 0b011#3 ++ 5#5 ++ 0b0101111#7) = some (.amoorD 5#5 6#5 7#5 1#1 0#1) ∧
    decodeRow (0b10000#5 ++ 1#1 ++ 0#1 ++ 7#5 ++ 6#5 ++ 0b011#3 ++ 5#5 ++ 0b0101111#7) = some (.amominD 5#5 6#5 7#5 1#1 0#1) ∧
    decodeRow (0b10100#5 ++ 1#1 ++ 0#1 ++ 7#5 ++ 6#5 ++ 0b011#3 ++ 5#5 ++ 0b0101111#7) = some (.amomaxD 5#5 6#5 7#5 1#1 0#1) ∧
    decodeRow (0b11000#5 ++ 1#1 ++ 0#1 ++ 7#5 ++ 6#5 ++ 0b011#3 ++ 5#5 ++ 0b0101111#7) = some (.amominuD 5#5 6#5 7#5 1#1 0#1) ∧
    decodeRow (0b11100#5 ++ 1#1 ++ 0#1 ++ 7#5 ++ 6#5 ++ 0b011#3 ++ 5#5 ++ 0b0101111#7) = some (.amomaxuD 5#5 6#5 7#5 1#1 0#1) := by
  decide

/-- table R273-T. -/
theorem test_decode_rv32f :
    decodeRow (0xA53#12 ++ 6#5 ++ 0b010#3 ++ 5#5 ++ 0b0000111#7) = some (.flw 5#5 6#5 0xA53#12) ∧
    decodeRow (0b1010010#7 ++ 7#5 ++ 6#5 ++ 0b010#3 ++ 0b10011#5 ++ 0b0100111#7) = some (.fsw 6#5 7#5 0xA53#12) ∧
    decodeRow (8#5 ++ 0b00#2 ++ 7#5 ++ 6#5 ++ 0b010#3 ++ 5#5 ++ 0b1000011#7) = some (.fmaddS 5#5 6#5 7#5 8#5 0b010#3) ∧
    decodeRow (8#5 ++ 0b00#2 ++ 7#5 ++ 6#5 ++ 0b010#3 ++ 5#5 ++ 0b1000111#7) = some (.fmsubS 5#5 6#5 7#5 8#5 0b010#3) ∧
    decodeRow (8#5 ++ 0b00#2 ++ 7#5 ++ 6#5 ++ 0b010#3 ++ 5#5 ++ 0b1001011#7) = some (.fnmsubS 5#5 6#5 7#5 8#5 0b010#3) ∧
    decodeRow (8#5 ++ 0b00#2 ++ 7#5 ++ 6#5 ++ 0b010#3 ++ 5#5 ++ 0b1001111#7) = some (.fnmaddS 5#5 6#5 7#5 8#5 0b010#3) ∧
    decodeRow (0b0000000#7 ++ 7#5 ++ 6#5 ++ 0b010#3 ++ 5#5 ++ 0b1010011#7) = some (.faddS 5#5 6#5 7#5 0b010#3) ∧
    decodeRow (0b0000100#7 ++ 7#5 ++ 6#5 ++ 0b010#3 ++ 5#5 ++ 0b1010011#7) = some (.fsubS 5#5 6#5 7#5 0b010#3) ∧
    decodeRow (0b0001000#7 ++ 7#5 ++ 6#5 ++ 0b010#3 ++ 5#5 ++ 0b1010011#7) = some (.fmulS 5#5 6#5 7#5 0b010#3) ∧
    decodeRow (0b0001100#7 ++ 7#5 ++ 6#5 ++ 0b010#3 ++ 5#5 ++ 0b1010011#7) = some (.fdivS 5#5 6#5 7#5 0b010#3) ∧
    decodeRow (0b0101100#7 ++ 0b00000#5 ++ 6#5 ++ 0b010#3 ++ 5#5 ++ 0b1010011#7) = some (.fsqrtS 5#5 6#5 0b010#3) ∧
    decodeRow (0b0010000#7 ++ 7#5 ++ 6#5 ++ 0b000#3 ++ 5#5 ++ 0b1010011#7) = some (.fsgnjS 5#5 6#5 7#5) ∧
    decodeRow (0b0010000#7 ++ 7#5 ++ 6#5 ++ 0b001#3 ++ 5#5 ++ 0b1010011#7) = some (.fsgnjnS 5#5 6#5 7#5) ∧
    decodeRow (0b0010000#7 ++ 7#5 ++ 6#5 ++ 0b010#3 ++ 5#5 ++ 0b1010011#7) = some (.fsgnjxS 5#5 6#5 7#5) ∧
    decodeRow (0b0010100#7 ++ 7#5 ++ 6#5 ++ 0b000#3 ++ 5#5 ++ 0b1010011#7) = some (.fminS 5#5 6#5 7#5) ∧
    decodeRow (0b0010100#7 ++ 7#5 ++ 6#5 ++ 0b001#3 ++ 5#5 ++ 0b1010011#7) = some (.fmaxS 5#5 6#5 7#5) ∧
    decodeRow (0b1100000#7 ++ 0b00000#5 ++ 6#5 ++ 0b010#3 ++ 5#5 ++ 0b1010011#7) = some (.fcvtWS 5#5 6#5 0b010#3) ∧
    decodeRow (0b1100000#7 ++ 0b00001#5 ++ 6#5 ++ 0b010#3 ++ 5#5 ++ 0b1010011#7) = some (.fcvtWuS 5#5 6#5 0b010#3) ∧
    decodeRow (0b1110000#7 ++ 0b00000#5 ++ 6#5 ++ 0b000#3 ++ 5#5 ++ 0b1010011#7) = some (.fmvXW 5#5 6#5) ∧
    decodeRow (0b1010000#7 ++ 7#5 ++ 6#5 ++ 0b010#3 ++ 5#5 ++ 0b1010011#7) = some (.feqS 5#5 6#5 7#5) ∧
    decodeRow (0b1010000#7 ++ 7#5 ++ 6#5 ++ 0b001#3 ++ 5#5 ++ 0b1010011#7) = some (.fltS 5#5 6#5 7#5) ∧
    decodeRow (0b1010000#7 ++ 7#5 ++ 6#5 ++ 0b000#3 ++ 5#5 ++ 0b1010011#7) = some (.fleS 5#5 6#5 7#5) ∧
    decodeRow (0b1110000#7 ++ 0b00000#5 ++ 6#5 ++ 0b001#3 ++ 5#5 ++ 0b1010011#7) = some (.fclassS 5#5 6#5) ∧
    decodeRow (0b1101000#7 ++ 0b00000#5 ++ 6#5 ++ 0b010#3 ++ 5#5 ++ 0b1010011#7) = some (.fcvtSW 5#5 6#5 0b010#3) ∧
    decodeRow (0b1101000#7 ++ 0b00001#5 ++ 6#5 ++ 0b010#3 ++ 5#5 ++ 0b1010011#7) = some (.fcvtSWu 5#5 6#5 0b010#3) ∧
    decodeRow (0b1111000#7 ++ 0b00000#5 ++ 6#5 ++ 0b000#3 ++ 5#5 ++ 0b1010011#7) = some (.fmvWX 5#5 6#5) := by
  decide

/-- table R274-T. -/
theorem test_decode_rv64f :
    decodeRow (0b1100000#7 ++ 0b00010#5 ++ 6#5 ++ 0b010#3 ++ 5#5 ++ 0b1010011#7) = some (.fcvtLS 5#5 6#5 0b010#3) ∧
    decodeRow (0b1100000#7 ++ 0b00011#5 ++ 6#5 ++ 0b010#3 ++ 5#5 ++ 0b1010011#7) = some (.fcvtLuS 5#5 6#5 0b010#3) ∧
    decodeRow (0b1101000#7 ++ 0b00010#5 ++ 6#5 ++ 0b010#3 ++ 5#5 ++ 0b1010011#7) = some (.fcvtSL 5#5 6#5 0b010#3) ∧
    decodeRow (0b1101000#7 ++ 0b00011#5 ++ 6#5 ++ 0b010#3 ++ 5#5 ++ 0b1010011#7) = some (.fcvtSLu 5#5 6#5 0b010#3) := by
  decide

/-- table R275-T. -/
theorem test_decode_rv32d :
    decodeRow (0xA53#12 ++ 6#5 ++ 0b011#3 ++ 5#5 ++ 0b0000111#7) = some (.fld 5#5 6#5 0xA53#12) ∧
    decodeRow (0b1010010#7 ++ 7#5 ++ 6#5 ++ 0b011#3 ++ 0b10011#5 ++ 0b0100111#7) = some (.fsd 6#5 7#5 0xA53#12) ∧
    decodeRow (8#5 ++ 0b01#2 ++ 7#5 ++ 6#5 ++ 0b010#3 ++ 5#5 ++ 0b1000011#7) = some (.fmaddD 5#5 6#5 7#5 8#5 0b010#3) ∧
    decodeRow (8#5 ++ 0b01#2 ++ 7#5 ++ 6#5 ++ 0b010#3 ++ 5#5 ++ 0b1000111#7) = some (.fmsubD 5#5 6#5 7#5 8#5 0b010#3) ∧
    decodeRow (8#5 ++ 0b01#2 ++ 7#5 ++ 6#5 ++ 0b010#3 ++ 5#5 ++ 0b1001011#7) = some (.fnmsubD 5#5 6#5 7#5 8#5 0b010#3) ∧
    decodeRow (8#5 ++ 0b01#2 ++ 7#5 ++ 6#5 ++ 0b010#3 ++ 5#5 ++ 0b1001111#7) = some (.fnmaddD 5#5 6#5 7#5 8#5 0b010#3) ∧
    decodeRow (0b0000001#7 ++ 7#5 ++ 6#5 ++ 0b010#3 ++ 5#5 ++ 0b1010011#7) = some (.faddD 5#5 6#5 7#5 0b010#3) ∧
    decodeRow (0b0000101#7 ++ 7#5 ++ 6#5 ++ 0b010#3 ++ 5#5 ++ 0b1010011#7) = some (.fsubD 5#5 6#5 7#5 0b010#3) ∧
    decodeRow (0b0001001#7 ++ 7#5 ++ 6#5 ++ 0b010#3 ++ 5#5 ++ 0b1010011#7) = some (.fmulD 5#5 6#5 7#5 0b010#3) ∧
    decodeRow (0b0001101#7 ++ 7#5 ++ 6#5 ++ 0b010#3 ++ 5#5 ++ 0b1010011#7) = some (.fdivD 5#5 6#5 7#5 0b010#3) ∧
    decodeRow (0b0101101#7 ++ 0b00000#5 ++ 6#5 ++ 0b010#3 ++ 5#5 ++ 0b1010011#7) = some (.fsqrtD 5#5 6#5 0b010#3) ∧
    decodeRow (0b0010001#7 ++ 7#5 ++ 6#5 ++ 0b000#3 ++ 5#5 ++ 0b1010011#7) = some (.fsgnjD 5#5 6#5 7#5) ∧
    decodeRow (0b0010001#7 ++ 7#5 ++ 6#5 ++ 0b001#3 ++ 5#5 ++ 0b1010011#7) = some (.fsgnjnD 5#5 6#5 7#5) ∧
    decodeRow (0b0010001#7 ++ 7#5 ++ 6#5 ++ 0b010#3 ++ 5#5 ++ 0b1010011#7) = some (.fsgnjxD 5#5 6#5 7#5) ∧
    decodeRow (0b0010101#7 ++ 7#5 ++ 6#5 ++ 0b000#3 ++ 5#5 ++ 0b1010011#7) = some (.fminD 5#5 6#5 7#5) ∧
    decodeRow (0b0010101#7 ++ 7#5 ++ 6#5 ++ 0b001#3 ++ 5#5 ++ 0b1010011#7) = some (.fmaxD 5#5 6#5 7#5) ∧
    decodeRow (0b0100000#7 ++ 0b00001#5 ++ 6#5 ++ 0b010#3 ++ 5#5 ++ 0b1010011#7) = some (.fcvtSD 5#5 6#5 0b010#3) ∧
    decodeRow (0b0100001#7 ++ 0b00000#5 ++ 6#5 ++ 0b010#3 ++ 5#5 ++ 0b1010011#7) = some (.fcvtDS 5#5 6#5 0b010#3) ∧
    decodeRow (0b1010001#7 ++ 7#5 ++ 6#5 ++ 0b010#3 ++ 5#5 ++ 0b1010011#7) = some (.feqD 5#5 6#5 7#5) ∧
    decodeRow (0b1010001#7 ++ 7#5 ++ 6#5 ++ 0b001#3 ++ 5#5 ++ 0b1010011#7) = some (.fltD 5#5 6#5 7#5) ∧
    decodeRow (0b1010001#7 ++ 7#5 ++ 6#5 ++ 0b000#3 ++ 5#5 ++ 0b1010011#7) = some (.fleD 5#5 6#5 7#5) ∧
    decodeRow (0b1110001#7 ++ 0b00000#5 ++ 6#5 ++ 0b001#3 ++ 5#5 ++ 0b1010011#7) = some (.fclassD 5#5 6#5) ∧
    decodeRow (0b1100001#7 ++ 0b00000#5 ++ 6#5 ++ 0b010#3 ++ 5#5 ++ 0b1010011#7) = some (.fcvtWD 5#5 6#5 0b010#3) ∧
    decodeRow (0b1100001#7 ++ 0b00001#5 ++ 6#5 ++ 0b010#3 ++ 5#5 ++ 0b1010011#7) = some (.fcvtWuD 5#5 6#5 0b010#3) ∧
    decodeRow (0b1101001#7 ++ 0b00000#5 ++ 6#5 ++ 0b010#3 ++ 5#5 ++ 0b1010011#7) = some (.fcvtDW 5#5 6#5 0b010#3) ∧
    decodeRow (0b1101001#7 ++ 0b00001#5 ++ 6#5 ++ 0b010#3 ++ 5#5 ++ 0b1010011#7) = some (.fcvtDWu 5#5 6#5 0b010#3) := by
  decide

/-- table R276-T. -/
theorem test_decode_rv64d :
    decodeRow (0b1100001#7 ++ 0b00010#5 ++ 6#5 ++ 0b010#3 ++ 5#5 ++ 0b1010011#7) = some (.fcvtLD 5#5 6#5 0b010#3) ∧
    decodeRow (0b1100001#7 ++ 0b00011#5 ++ 6#5 ++ 0b010#3 ++ 5#5 ++ 0b1010011#7) = some (.fcvtLuD 5#5 6#5 0b010#3) ∧
    decodeRow (0b1110001#7 ++ 0b00000#5 ++ 6#5 ++ 0b000#3 ++ 5#5 ++ 0b1010011#7) = some (.fmvXD 5#5 6#5) ∧
    decodeRow (0b1101001#7 ++ 0b00010#5 ++ 6#5 ++ 0b010#3 ++ 5#5 ++ 0b1010011#7) = some (.fcvtDL 5#5 6#5 0b010#3) ∧
    decodeRow (0b1101001#7 ++ 0b00011#5 ++ 6#5 ++ 0b010#3 ++ 5#5 ++ 0b1010011#7) = some (.fcvtDLu 5#5 6#5 0b010#3) ∧
    decodeRow (0b1111001#7 ++ 0b00000#5 ++ 6#5 ++ 0b000#3 ++ 5#5 ++ 0b1010011#7) = some (.fmvDX 5#5 6#5) := by
  decide

/-- Words that are no row: all zeros, all ones, a bad funct3, a bad funct7, non-zero fields of FENCE and ECALL (V5, V7, V9). -/
theorem test_decode_refuses :
    decodeRow 0x00000000#32 = none ∧ decodeRow 0xFFFFFFFF#32 = none ∧ decodeRow 0x00002063#32 = none ∧
    decodeRow 0x80000033#32 = none ∧ decodeRow 0x1000000F#32 = none ∧ decodeRow 0x0000008F#32 = none ∧
    decodeRow 0x00008073#32 = none ∧ decodeRow 0x30200073#32 = none := by decide

/-- Refused by name (R100). -/
theorem test_decode_refuses_by_name : decode 0x00000000#32 = .error .sixteenBit := rfl

/-- The host's view of the decoder: the bytes of a word, little-endian (R52). -/
theorem test_decodeTableWord : decodeTableWord 32 0xFFC280E7 = some (.jalr 1#5 5#5 0xFFC#12) := by decide

/-- A placed word runs as the first instruction after reset (`lui x5, 0x12345`, E7). -/
theorem test_withFetchWord_runs_from_reset :
    gives (State.reset.withFetchWord 32 0x123452B7) 5#5 = some (0x12345000#32, 4#32, 1#64) := by decide

/-! ## One step, against the vectors -/

/-- V1: `addi x5, x6, -2048`. -/
theorem test_addi_sign_extends :
    gives (start [(6#5, 0x00000800#32)] 0x80030293) 5#5 = some (0x00000000#32, 0x00001004#32, 101#64) := by decide

/-- V1: `slti x5, x6, -2048`. -/
theorem test_slti_is_signed :
    gives (start [(6#5, 0x80000000#32)] 0x80032293) 5#5 = some (0x00000001#32, 0x00001004#32, 101#64) := by decide

/-- V1: `slti x5, x6, -1`. -/
theorem test_slti_equal_is_zero :
    gives (start [(6#5, 0xFFFFFFFF#32)] 0xFFF32293) 5#5 = some (0x00000000#32, 0x00001004#32, 101#64) := by decide

/-- V1: `sltiu x5, x6, -1`. -/
theorem test_sltiu_extends_then_unsigned :
    gives (start [(6#5, 0xFFFFFFFE#32)] 0xFFF33293) 5#5 = some (0x00000001#32, 0x00001004#32, 101#64) := by decide

/-- V1: `sltiu x5, x6, 1`. -/
theorem test_sltiu_is_seqz :
    gives (start [(6#5, 0x00000001#32)] 0x00133293) 5#5 = some (0x00000000#32, 0x00001004#32, 101#64) := by decide

/-- V1: `andi x5, x6, -16`. -/
theorem test_andi_sign_extends :
    gives (start [(6#5, 0x12345678#32)] 0xFF037293) 5#5 = some (0x12345670#32, 0x00001004#32, 101#64) := by decide

/-- V1: `ori x5, x6, -2048`. -/
theorem test_ori_sign_extends :
    gives (start [(6#5, 0x00000001#32)] 0x80036293) 5#5 = some (0xFFFFF801#32, 0x00001004#32, 101#64) := by decide

/-- V1: `xori x5, x6, -1`. -/
theorem test_xori_inverts :
    gives (start [(6#5, 0x0F0F0F0F#32)] 0xFFF34293) 5#5 = some (0xF0F0F0F0#32, 0x00001004#32, 101#64) := by decide

/-- V1: `slli x5, x6, 31`. -/
theorem test_slli_by_31 :
    gives (start [(6#5, 0x00000003#32)] 0x01F31293) 5#5 = some (0x80000000#32, 0x00001004#32, 101#64) := by decide

/-- V1: `slli x5, x6, 1`. -/
theorem test_slli_drops_high_bits :
    gives (start [(6#5, 0x80000001#32)] 0x00131293) 5#5 = some (0x00000002#32, 0x00001004#32, 101#64) := by decide

/-- V1: `srli x5, x6, 31`. -/
theorem test_srli_by_31 :
    gives (start [(6#5, 0x80000000#32)] 0x01F35293) 5#5 = some (0x00000001#32, 0x00001004#32, 101#64) := by decide

/-- V1: `srai x5, x6, 31`. -/
theorem test_srai_copies_sign :
    gives (start [(6#5, 0x80000000#32)] 0x41F35293) 5#5 = some (0xFFFFFFFF#32, 0x00001004#32, 101#64) := by decide

/-- V1: `srai x5, x6, 31`. -/
theorem test_srai_positive :
    gives (start [(6#5, 0x7FFFFFFF#32)] 0x41F35293) 5#5 = some (0x00000000#32, 0x00001004#32, 101#64) := by decide

/-- V1: `lui x5, 0x80000`. -/
theorem test_lui_high_bit : gives (start [] 0x800002B7) 5#5 = some (0x80000000#32, 0x00001004#32, 101#64) := by decide

/-- V1: `auipc x5, 0xFFFFF`. -/
theorem test_auipc_adds_to_its_own_pc :
    gives (start [] 0xFFFFF297) 5#5 = some (0x00000000#32, 0x00001004#32, 101#64) := by decide

/-- V2: `add x5, x6, x7`. -/
theorem test_add_wraps :
    gives (start [(6#5, 0xFFFFFFFF#32), (7#5, 0x00000001#32)] 0x007302B3) 5#5 =
      some (0x00000000#32, 0x00001004#32, 101#64) := by decide

/-- V2: `add x6, x6, x7`. -/
theorem test_add_same_register :
    gives (start [(6#5, 0x00000003#32), (7#5, 0x00000004#32)] 0x00730333) 6#5 =
      some (0x00000007#32, 0x00001004#32, 101#64) := by decide

/-- V2: `sub x5, x6, x7`. -/
theorem test_sub_borrows :
    gives (start [(6#5, 0x80000000#32), (7#5, 0x00000001#32)] 0x407302B3) 5#5 =
      some (0x7FFFFFFF#32, 0x00001004#32, 101#64) := by decide

/-- V2: `sub x5, x0, x6`. -/
theorem test_sub_from_zero :
    gives (start [(6#5, 0x80000000#32)] 0x406002B3) 5#5 = some (0x80000000#32, 0x00001004#32, 101#64) := by decide

/-- V2: `sll x5, x6, x7`. -/
theorem test_sll_low_five_bits :
    gives (start [(6#5, 0x00000001#32), (7#5, 0x00000020#32)] 0x007312B3) 5#5 =
      some (0x00000001#32, 0x00001004#32, 101#64) := by decide

/-- V2: `slt x5, x6, x7`. -/
theorem test_slt_is_signed :
    gives (start [(6#5, 0x80000000#32), (7#5, 0x7FFFFFFF#32)] 0x007322B3) 5#5 =
      some (0x00000001#32, 0x00001004#32, 101#64) := by decide

/-- V2: `sltu x5, x6, x7`. -/
theorem test_sltu_is_unsigned :
    gives (start [(6#5, 0x80000000#32), (7#5, 0x7FFFFFFF#32)] 0x007332B3) 5#5 =
      some (0x00000000#32, 0x00001004#32, 101#64) := by decide

/-- V2: `xor x5, x6, x7`. -/
theorem test_xor_bits :
    gives (start [(6#5, 0xFF00FF00#32), (7#5, 0x0FF00FF0#32)] 0x007342B3) 5#5 =
      some (0xF0F0F0F0#32, 0x00001004#32, 101#64) := by decide

/-- V2: `srl x5, x6, x7`. -/
theorem test_srl_low_five_bits :
    gives (start [(6#5, 0x80000000#32), (7#5, 0x00000024#32)] 0x007352B3) 5#5 =
      some (0x08000000#32, 0x00001004#32, 101#64) := by decide

/-- V2: `sra x5, x6, x7`. -/
theorem test_sra_low_five_bits :
    gives (start [(6#5, 0x80000000#32), (7#5, 0x00000024#32)] 0x407352B3) 5#5 =
      some (0xF8000000#32, 0x00001004#32, 101#64) := by decide

/-- V2: `or x5, x6, x7`. -/
theorem test_or_bits :
    gives (start [(6#5, 0xFF00FF00#32), (7#5, 0x0FF00FF0#32)] 0x007362B3) 5#5 =
      some (0xFFF0FFF0#32, 0x00001004#32, 101#64) := by decide

/-- V2: `and x5, x6, x7`. -/
theorem test_and_bits :
    gives (start [(6#5, 0xFF00FF00#32), (7#5, 0x0FF00FF0#32)] 0x007372B3) 5#5 =
      some (0x0F000F00#32, 0x00001004#32, 101#64) := by decide

/-- V2: `and x0, x6, x7`. -/
theorem test_and_x0_discards :
    gives (start [(6#5, 0xFFFFFFFF#32), (7#5, 0xFFFFFFFF#32)] 0x00737033) 0#5 =
      some (0x00000000#32, 0x00001004#32, 101#64) := by decide

/-- V3: `jal x1, +8`. -/
theorem test_jal_links : gives (start [] 0x008000EF) 1#5 = some (0x00001004#32, 0x00001008#32, 101#64) := by decide

/-- V3: `jal x1, +2`. -/
theorem test_jal_misaligned :
    trap (start [] 0x002000EF) = some (.instructionAddressMisaligned 0x00001000#32 0x00001002#32) := by decide

/-- V3: `jalr x1, x5, -4`. -/
theorem test_jalr_clears_bit_zero :
    gives (start [(5#5, 0x00002005#32)] 0xFFC280E7) 1#5 = some (0x00001004#32, 0x00002000#32, 101#64) := by decide

/-- V3: `jalr x1, x1, 0`. -/
theorem test_jalr_reads_rs1_before_the_link :
    gives (start [(1#5, 0x00003000#32)] 0x000080E7) 1#5 = some (0x00001004#32, 0x00003000#32, 101#64) := by decide

/-- V3: `beq x5, x6, +16`. -/
theorem test_beq_taken :
    gives (start [(5#5, 0x00000007#32), (6#5, 0x00000007#32)] 0x00628863) 0#5 =
      some (0x00000000#32, 0x00001010#32, 101#64) := by decide

/-- V3: `beq x5, x6, +2`. -/
theorem test_beq_misaligned_not_taken :
    gives (start [(5#5, 0x00000001#32), (6#5, 0x00000002#32)] 0x00628163) 0#5 =
      some (0x00000000#32, 0x00001004#32, 101#64) := by decide

/-- V3: `bne x5, x6, -8`. -/
theorem test_bne_backward :
    gives (start [(5#5, 0x00000001#32), (6#5, 0x00000002#32)] 0xFE629CE3) 0#5 =
      some (0x00000000#32, 0x00000FF8#32, 101#64) := by decide

/-- V3: `bne x5, x6, -8`. -/
theorem test_bne_not_taken :
    gives (start [(5#5, 0x00000002#32), (6#5, 0x00000002#32)] 0xFE629CE3) 0#5 =
      some (0x00000000#32, 0x00001004#32, 101#64) := by decide

/-- V3: `blt x5, x6, +8`. -/
theorem test_blt_taken_signed :
    gives (start [(5#5, 0x80000000#32), (6#5, 0x7FFFFFFF#32)] 0x0062C463) 0#5 =
      some (0x00000000#32, 0x00001008#32, 101#64) := by decide

/-- V3: `blt x5, x6, +8`. -/
theorem test_blt_equal_not_taken :
    gives (start [(5#5, 0x00000003#32), (6#5, 0x00000003#32)] 0x0062C463) 0#5 =
      some (0x00000000#32, 0x00001004#32, 101#64) := by decide

/-- V3: `bge x5, x6, +8`. -/
theorem test_bge_signed_not_taken :
    gives (start [(5#5, 0xFFFFFFFF#32), (6#5, 0x00000001#32)] 0x0062D463) 0#5 =
      some (0x00000000#32, 0x00001004#32, 101#64) := by decide

/-- V3: `bge x5, x6, +8`. -/
theorem test_bge_equal_taken :
    gives (start [(5#5, 0x00000003#32), (6#5, 0x00000003#32)] 0x0062D463) 0#5 =
      some (0x00000000#32, 0x00001008#32, 101#64) := by decide

/-- V3: `bltu x5, x6, +8`. -/
theorem test_bltu_unsigned_not_taken :
    gives (start [(5#5, 0xFFFFFFFF#32), (6#5, 0x00000001#32)] 0x0062E463) 0#5 =
      some (0x00000000#32, 0x00001004#32, 101#64) := by decide

/-- V3: `bltu x5, x6, +8`. -/
theorem test_bltu_taken :
    gives (start [(5#5, 0x00000001#32), (6#5, 0xFFFFFFFF#32)] 0x0062E463) 0#5 =
      some (0x00000000#32, 0x00001008#32, 101#64) := by decide

/-- V3: `bgeu x5, x6, +8`. -/
theorem test_bgeu_unsigned_taken :
    gives (start [(5#5, 0xFFFFFFFF#32), (6#5, 0x00000001#32)] 0x0062F463) 0#5 =
      some (0x00000000#32, 0x00001008#32, 101#64) := by decide

/-- V3: `bgeu x5, x6, +6`. -/
theorem test_bgeu_misaligned :
    trap (start [(5#5, 0x00000003#32), (6#5, 0x00000003#32)] 0x0062F363) =
      some (.instructionAddressMisaligned 0x00001000#32 0x00001006#32) := by decide

/-- V4: `lb x5, 0(x6)`. -/
theorem test_lb_sign_extends :
    gives (start [(6#5, 0x00002000#32)] 0x00030283) 5#5 = some (0xFFFFFF80#32, 0x00001004#32, 101#64) := by decide

/-- V4: `lb x5, 0(x6)`. -/
theorem test_lb_illegal :
    trap (start [(6#5, 0x00003000#32)] 0x00030283) = some (.loadAccessFault 0x00001000#32 0x00003000#32) := by decide

/-- V4: `lh x5, 3(x6)`. -/
theorem test_lh_misaligned_completes :
    gives (start [(6#5, 0x00002000#32)] 0x00331283) 5#5 = some (0x00000483#32, 0x00001004#32, 101#64) := by decide

/-- V4: `lh x5, 0(x6)`. -/
theorem test_lh_sign_extends :
    gives (start [(6#5, 0x00002000#32)] 0x00031283) 5#5 = some (0xFFFF8180#32, 0x00001004#32, 101#64) := by decide

/-- V4: `lw x5, 1(x6)`. -/
theorem test_lw_misaligned_completes :
    gives (start [(6#5, 0x00002000#32)] 0x00132283) 5#5 = some (0x04838281#32, 0x00001004#32, 101#64) := by decide

/-- V4: `lw x5, -3(x6)`. -/
theorem test_lw_partly_illegal :
    trap (start [(6#5, 0x00003000#32)] 0xFFD32283) = some (.loadAccessFault 0x00001000#32 0x00002FFD#32) := by decide

/-- V4: `lbu x5, -1(x6)`. -/
theorem test_lbu_zero_extends :
    gives (start [(6#5, 0x00002004#32)] 0xFFF34283) 5#5 = some (0x00000083#32, 0x00001004#32, 101#64) := by decide

/-- V4: `lhu x5, 1(x6)`. -/
theorem test_lhu_misaligned_zero_extends :
    gives (start [(6#5, 0x00002000#32)] 0x00135283) 5#5 = some (0x00008281#32, 0x00001004#32, 101#64) := by decide

/-- V4: `sb x7, 0(x6)`. -/
theorem test_sb_low_byte : bytesAfter (start [(6#5, 0x00002000#32), (7#5, 0xAABBCCDD#32)] 0x00730023) [0x00002000] =
      some ([0xDD#8], [0x00002000], 0x00001004#32) := by decide

/-- V4: `sb x7, -1(x6)`. -/
theorem test_sb_illegal :
    trap (start [(6#5, 0x00002000#32), (7#5, 0x00000000#32)] 0xFE730FA3) =
      some (.storeAccessFault 0x00001000#32 0x00001FFF#32) := by decide

/-- V4: `sh x7, 1(x6)`. -/
theorem test_sh_misaligned_little_endian : bytesAfter (start [(6#5, 0x00002000#32), (7#5, 0xAABBCCDD#32)] 0x007310A3) [0x00002001, 0x00002002] =
      some ([0xDD#8, 0xCC#8], [0x00002001, 0x00002002], 0x00001004#32) := by decide

/-- V4: `sw x7, -4(x6)`. -/
theorem test_sw_last_legal_word : bytesAfter (start [(6#5, 0x00003000#32), (7#5, 0xAABBCCDD#32)] 0xFE732E23) [0x00002FFC, 0x00002FFD, 0x00002FFE, 0x00002FFF] =
      some ([0xDD#8, 0xCC#8, 0xBB#8, 0xAA#8], [0x00002FFC, 0x00002FFD, 0x00002FFE, 0x00002FFF], 0x00001004#32) := by decide

/-- V4: `sw x7, -2(x6)`. -/
theorem test_sw_partly_illegal :
    trap (start [(6#5, 0x00003000#32), (7#5, 0xAABBCCDD#32)] 0xFE732F23) =
      some (.storeAccessFault 0x00001000#32 0x00002FFE#32) := by decide

/-- V5: `fence iorw, iorw`. -/
theorem test_fence_only_advances : gives (start [] 0x0FF0000F) 0#5 = some (0x00000000#32, 0x00001004#32, 101#64) := by decide

/-- V5: `fence.i`. -/
theorem test_fenceI_advances : gives (start [] 0x0000100F) 0#5 = some (0x00000000#32, 0x00001004#32, 101#64) := by decide

/-- V6: `csrrs x5, instret, x0`. -/
theorem test_csrrs_instret_before_increment :
    gives (start [] 0xC02022F3) 5#5 = some (0x00000064#32, 0x00001004#32, 101#64) := by decide

/-- V6: `csrrc x5, instret, x0`. -/
theorem test_csrrc_instret : gives (start [] 0xC02032F3) 5#5 = some (0x00000064#32, 0x00001004#32, 101#64) := by decide

/-- V6: `csrrc x5, instret, x6`. -/
theorem test_csrrc_writing_is_illegal :
    trap (start [(6#5, 0x00000000#32)] 0xC02332F3) = some (.illegalInstruction 0x00001000#32 0xC02332F3#32) := by decide

/-- V6: `csrrsi x5, instret, 0`. -/
theorem test_csrrsi_instret : gives (start [] 0xC02062F3) 5#5 = some (0x00000064#32, 0x00001004#32, 101#64) := by decide

/-- V6: `csrrsi x5, instret, 1`. -/
theorem test_csrrsi_writing_is_illegal :
    trap (start [] 0xC020E2F3) = some (.illegalInstruction 0x00001000#32 0xC020E2F3#32) := by decide

/-- V6: `csrrci x5, instreth, 0`. -/
theorem test_csrrci_instreth : gives (start [] 0xC82072F3) 5#5 = some (0x00000000#32, 0x00001004#32, 101#64) := by decide

/-- V6: `csrrci x5, instret, 31`. -/
theorem test_csrrci_writing_is_illegal :
    trap (start [] 0xC02FF2F3) = some (.illegalInstruction 0x00001000#32 0xC02FF2F3#32) := by decide

/-- V6: `csrrw x0, instret, x0`. -/
theorem test_csrrw_is_illegal :
    trap (start [] 0xC0201073) = some (.illegalInstruction 0x00001000#32 0xC0201073#32) := by decide

/-- V6: `csrrwi x5, instret, 0`. -/
theorem test_csrrwi_is_illegal :
    trap (start [] 0xC02052F3) = some (.illegalInstruction 0x00001000#32 0xC02052F3#32) := by decide

/-- V7: `ecall`. -/
theorem test_ecall_raises :
    trap (start [(10#5, 0x00000005#32)] 0x00000073) = some (.environmentCall 0x00001000#32 0x00000000#32) := by decide

/-- V7: `ebreak`. -/
theorem test_ebreak_raises : trap (start [] 0x00100073) = some (.breakpoint 0x00001000#32 0x00001000#32) := by decide

/-- V8: `mul x5, x6, x7`. -/
theorem test_mul_low_half :
    gives (start [(6#5, 0x12345678#32), (7#5, 0x9ABCDEF0#32)] 0x027302B3) 5#5 =
      some (0x242D2080#32, 0x00001004#32, 101#64) := by decide

/-- V8: `mulh x5, x6, x7`. -/
theorem test_mulh_signed :
    gives (start [(6#5, 0x12345678#32), (7#5, 0x9ABCDEF0#32)] 0x027312B3) 5#5 =
      some (0xF8CC93D6#32, 0x00001004#32, 101#64) := by decide

/-- V8: `mulhsu x5, x6, x7`. -/
theorem test_mulhsu_rs1_signed :
    gives (start [(6#5, 0xFFFFFFFF#32), (7#5, 0x00000001#32)] 0x027322B3) 5#5 =
      some (0xFFFFFFFF#32, 0x00001004#32, 101#64) := by decide

/-- V8: `mulhsu x5, x6, x7`. -/
theorem test_mulhsu_rs2_unsigned :
    gives (start [(6#5, 0x00000001#32), (7#5, 0xFFFFFFFF#32)] 0x027322B3) 5#5 =
      some (0x00000000#32, 0x00001004#32, 101#64) := by decide

/-- V8: `mulhu x5, x6, x7`. -/
theorem test_mulhu_unsigned :
    gives (start [(6#5, 0xFFFFFFFF#32), (7#5, 0xFFFFFFFF#32)] 0x027332B3) 5#5 =
      some (0xFFFFFFFE#32, 0x00001004#32, 101#64) := by decide

/-- V8: `div x5, x6, x7`. -/
theorem test_div_rounds_toward_zero :
    gives (start [(6#5, 0xFFFFFFF9#32), (7#5, 0x00000002#32)] 0x027342B3) 5#5 =
      some (0xFFFFFFFD#32, 0x00001004#32, 101#64) := by decide

/-- V8: `div x5, x6, x7`. -/
theorem test_div_overflow :
    gives (start [(6#5, 0x80000000#32), (7#5, 0xFFFFFFFF#32)] 0x027342B3) 5#5 =
      some (0x80000000#32, 0x00001004#32, 101#64) := by decide

/-- V8: `divu x5, x6, x7`. -/
theorem test_divu_by_zero :
    gives (start [(6#5, 0x0000002A#32), (7#5, 0x00000000#32)] 0x027352B3) 5#5 =
      some (0xFFFFFFFF#32, 0x00001004#32, 101#64) := by decide

/-- V8: `divu x5, x6, x7`. -/
theorem test_divu_unsigned :
    gives (start [(6#5, 0xFFFFFFF9#32), (7#5, 0x00000002#32)] 0x027352B3) 5#5 =
      some (0x7FFFFFFC#32, 0x00001004#32, 101#64) := by decide

/-- V8: `rem x5, x6, x7`. -/
theorem test_rem_sign_of_dividend :
    gives (start [(6#5, 0xFFFFFFF9#32), (7#5, 0x00000002#32)] 0x027362B3) 5#5 =
      some (0xFFFFFFFF#32, 0x00001004#32, 101#64) := by decide

/-- V8: `rem x5, x6, x7`. -/
theorem test_rem_by_zero :
    gives (start [(6#5, 0xFFFFFFD6#32), (7#5, 0x00000000#32)] 0x027362B3) 5#5 =
      some (0xFFFFFFD6#32, 0x00001004#32, 101#64) := by decide

/-- V8: `remu x5, x6, x7`. -/
theorem test_remu_unsigned :
    gives (start [(6#5, 0x80000000#32), (7#5, 0xFFFFFFFF#32)] 0x027372B3) 5#5 =
      some (0x80000000#32, 0x00001004#32, 101#64) := by decide

/-- V8: `remu x5, x6, x7`. -/
theorem test_remu_by_zero :
    gives (start [(6#5, 0x0000002A#32), (7#5, 0x00000000#32)] 0x027372B3) 5#5 =
      some (0x0000002A#32, 0x00001004#32, 101#64) := by decide

/-- V8: `(MULW: opcode OP-32, RV64 only)`. -/
theorem test_mulw_is_illegal :
    trap (start [] 0x0200003B) = some (.illegalInstruction 0x00001000#32 0x0200003B#32) := by decide

/-- V9: `(AMO: LR.W, RV32A)`. -/
theorem test_lrw_is_illegal :
    trap (start [] 0x1000202F) = some (.illegalInstruction 0x00001000#32 0x1000202F#32) := by decide

/-- V9: `(OP-FP: FADD.S, RV32F)`. -/
theorem test_fadds_is_illegal :
    trap (start [] 0x00000053) = some (.illegalInstruction 0x00001000#32 0x00000053#32) := by decide

/-- V6: `csrrs x5, 0xC03, x0`. -/
theorem test_csrrs_absent_csr_is_illegal :
    trap (start [] 0xC03022F3) = some (.illegalInstruction 0x00001000#32 0xC03022F3#32) := by decide

/-- Immediates of each format (V10): the ends of the range, and words with one immediate bit set. -/
theorem test_immediates :
    sextImm (Field.iImm 0x80030293#32) = 0xFFFFF800#32 ∧ sextImm (Field.iImm 0x40030293#32) = 0x00000400#32 ∧
    sextImm (Field.sImm 0x80732023#32) = 0xFFFFF800#32 ∧ sextImm (Field.sImm 0x007320A3#32) = 0x00000001#32 ∧
    (Field.bImm 0x7E628FE3#32).signExtend 32 = 0x00000FFE#32 ∧ (Field.bImm 0x006280E3#32).signExtend 32 = 0x00000800#32 ∧
    upperImm (Field.uImm 0x123452B7#32) = 0x12345000#32 ∧
    (Field.jImm 0x7FFFF0EF#32).signExtend 32 = 0x000FFFFE#32 ∧ (Field.jImm 0x001000EF#32).signExtend 32 = 0x00000800#32 := by
  decide

/-- FENCE.I empties Dirty and leaves the registers (R191). -/
theorem test_fenceI_empties_dirty :
    bytesAfter ({ base with dirty := [0x2000, 0x2001] }.withFetchWord 32 0x0000100F) [0x2000] =
      some ([0x80#8], [], 0x00001004#32) := by decide

/-- The canonical NOP changes only the pc and instret (E1, R142). -/
theorem test_nop_only_advances :
    after (start [(6#5, 0x7#32)] 0x00000013) =
      some { start [(6#5, 0x7#32)] 0x00000013 with pc := 0x1004#32, instret := 101#64 } := by decide

/-- What table R34-T fixes of the start state: x0 reads 0, Dirty is empty, the pc is a multiple of 4. -/
theorem test_reset : State.reset.reg 0#5 = 0#32 ∧ State.reset.dirty = [] ∧ State.reset.pc.toNat % 4 = 0 := by decide

/-! ## For every statement with hypotheses, a state and operands that meet them

Several theorems for one statement: one for each clause, at the ends of its range. -/

/-- Memory and Dirty of the vectors' state, and a start state, are in canonical form. -/
theorem base_wf : base.mem.wf ∧ base.dirty.wf ∧ State.reset.mem.wf := by decide

/-- The vectors' state has the word it was given ready to fetch, at the two ends of its fetchable range too. -/
theorem witness_FetchReady :
    (start [] 0x00000013).FetchReady ∧ ({ base with pc := 0x1FFC#32 }.withFetchWord 32 0x13).FetchReady ∧
    ({ base with pc := 0xFFFFFFFC#32 }.withFetchWord 32 0x13).FetchReady := by decide

theorem witness_StepRunsDecodedInstruction :
    (start [] 0x00530013).FetchReady ∧ decode (start [] 0x00530013).fetchedWord = .ok (.addi 0#5 6#5 5#12) :=
  ⟨by decide, decode_of_row (by decide)⟩

theorem witness_DecodeOfEncodeIsIdentity :
    (Instr.jal 31#5 0x100000#21).wf = true ∧ (Instr.bgeu 31#5 0#5 0x0FFE#13).wf = true ∧
    (Instr.sraiRv64 1#5 2#5 32#6).wf = true ∧ (Instr.csrrci 1#5 0xFFF#12 31#5).wf = true := by decide

theorem witness_EncodeOfDecodedIsTheWord :
    decode 0x80628063#32 = .ok (.beq 5#5 6#5 0x1000#13) ∧ decode 0x02001013#32 = .ok (.slliRv64 0#5 0#5 32#6) :=
  ⟨decode_of_row (by decide), decode_of_row (by decide)⟩

/-- A word that decodes; one that matches an in-scope row; and two operand choices of one row. -/
theorem witness_DecodeFollowsOpcodeTable :
    decode 0x007302B3#32 = .ok (.add 5#5 6#5 7#5) ∧
    ((rowGroup (.add 0#5 0#5 0#5)).listedOnly = false ∧
      0x007302B3#32 &&& rowMask (.add 0#5 0#5 0#5) = rowMatch (.add 0#5 0#5 0#5)) ∧
    ((rowGroup (.add 1#5 2#5 3#5)).listedOnly = false ∧
      0x007302B3#32 &&& rowMask (.add 1#5 2#5 3#5) = rowMatch (.add 1#5 2#5 3#5)) :=
  ⟨decode_of_row (by decide), by decide, by decide⟩

/-- The lowest and the highest bit. -/
theorem witness_ImmediatesAreAssembled : 0 < 32 ∧ 31 < 32 := by decide

/-- Bad funct7 of the shifts, the nearest values to the legal ones; the last is RV64's SRAI. -/
theorem witness_ShiftImmediate :
    (start [] 0x02D31293).FetchReady ∧
    (start [] 0x02D31293).fetchedWord = 0b0000001#7 ++ 13#5 ++ 6#5 ++ 0b001#3 ++ 5#5 ++ 0b0010011#7 ∧
    (start [] 0x40D31293).FetchReady ∧
    (start [] 0x40D31293).fetchedWord = 0b0100000#7 ++ 13#5 ++ 6#5 ++ 0b001#3 ++ 5#5 ++ 0b0010011#7 ∧
    (start [] 0x42D35293).FetchReady ∧
    (start [] 0x42D35293).fetchedWord = 0b0100001#7 ++ 13#5 ++ 6#5 ++ 0b101#3 ++ 5#5 ++ 0b0010011#7 := by decide

/-- Words of the integer and M rows with rd = x0, one of each format. -/
theorem witness_CanonicalNopOnlyAdvances :
    (rowGroup (.addi 0#5 6#5 5#12) = .integer ∧ Field.rd (encode (.addi 0#5 6#5 5#12)) = 0#5) ∧
    (rowGroup (.auipc 0#5 0xFFFFF#20) = .integer ∧ Field.rd (encode (.auipc 0#5 0xFFFFF#20)) = 0#5) ∧
    (rowGroup (.sra 0#5 31#5 31#5) = .integer ∧ Field.rd (encode (.sra 0#5 31#5 31#5)) = 0#5) ∧
    (rowGroup (.remu 0#5 6#5 7#5) = .mulDiv ∧ Field.rd (encode (.remu 0#5 6#5 7#5)) = 0#5) := by decide

/-- A divisor that is not 0, the overflow pair shut out by one operand each time. -/
theorem witness_QuotientAndRemainderLaws :
    (1#32 ≠ 0#32 ∧ ¬ (0x80000000#32 = 0x80000000#32 ∧ 1#32 = 0xFFFFFFFF#32)) ∧
    (0xFFFFFFFF#32 ≠ 0#32 ∧ ¬ (0x80000001#32 = 0x80000000#32 ∧ 0xFFFFFFFF#32 = 0xFFFFFFFF#32)) := by decide

/-- JAL and JALR: an even offset; an aligned and a misaligned target each. -/
theorem witness_JumpAndLink :
    (8#21).getLsbD 0 = false ∧ (0x100000#21).getLsbD 0 = false ∧
    Aligned (BitVec.ofInt 32 (base.pc.toInt + (8#21).toInt)) ∧
    ¬ Aligned (BitVec.ofInt 32 (base.pc.toInt + (2#21).toInt)) ∧
    Aligned (BitVec.ofInt 32 ((base.reg 0#5).toInt + (0x801#12).toInt) &&& 0xFFFFFFFE#32) ∧
    ¬ Aligned (BitVec.ofInt 32 ((base.reg 0#5).toInt + (0x803#12).toInt) &&& 0xFFFFFFFE#32) := by decide

/-- x5 = 0x80000000, x6 = x7 = 0x7FFFFFFF: for each branch, operands on which it is taken and on which it is not; and an
aligned and a misaligned target. -/
theorem witness_ConditionalBranches :
    let s := setRegs base [(5#5, 0x80000000#32), (6#5, 0x7FFFFFFF#32), (7#5, 0x7FFFFFFF#32)]
    (s.reg 6#5 = s.reg 7#5 ∧ ¬ s.reg 5#5 = s.reg 6#5) ∧
    ((s.reg 5#5).toInt < (s.reg 6#5).toInt ∧ ¬ (s.reg 6#5).toInt < (s.reg 7#5).toInt) ∧
    ((s.reg 6#5).toInt ≥ (s.reg 7#5).toInt ∧ ¬ (s.reg 5#5).toInt ≥ (s.reg 6#5).toInt) ∧
    ((s.reg 6#5).toNat < (s.reg 5#5).toNat ∧ ¬ (s.reg 6#5).toNat < (s.reg 7#5).toNat) ∧
    ((s.reg 6#5).toNat ≥ (s.reg 7#5).toNat ∧ ¬ (s.reg 6#5).toNat ≥ (s.reg 5#5).toNat) ∧
    (4094#13).getLsbD 0 = false ∧ Aligned (BitVec.ofInt 32 (s.pc.toInt + (0x1000#13).toInt)) ∧
    ¬ Aligned (BitVec.ofInt 32 (s.pc.toInt + (4094#13).toInt)) := by decide

theorem witness_MisalignedTargetRaisesAtTheTransfer :
    (start [] 0x002000EF).FetchReady ∧ decode (start [] 0x002000EF).fetchedWord = .ok (.jal 1#5 2#21) ∧
    takenTarget (start [] 0x002000EF) (.jal 1#5 2#21) = some 0x1002#32 ∧ ¬ Aligned 0x1002#32 :=
  ⟨by decide, decode_of_row (by decide), by decide, by decide⟩

/-- A transfer that is made and an instruction that is none. -/
theorem witness_PcAdvancesByFourOrToTheTarget :
    exec (.jal 1#5 8#21) base = .next ((base.writeReg 1#5 0x1004#32).retireTo 0x1008#32) ∧
    takenTarget base (.jal 1#5 8#21) = some 0x1008#32 ∧
    exec (.fence 0#4 0#4) base = .next base.retire ∧ takenTarget base (.fence 0#4 0#4) = none :=
  ⟨rfl, by decide, rfl, rfl⟩

/-- The first and last legal addresses of each width, and the first that is not legal. -/
theorem witness_LoadsGiveTheBytes :
    let s := setRegs base [(6#5, 0x2000#32), (7#5, 0x3000#32)]
    (0x2FFC#32 = BitVec.ofInt 32 ((s.reg 7#5).toInt + (0xFFC#12).toInt) ∧ s.BytesLegal .load 0x2FFC#32 4 ∧
      s.BytesPlain 0x2FFC#32 4) ∧
    (0x2FFD#32 = BitVec.ofInt 32 ((s.reg 7#5).toInt + (0xFFD#12).toInt) ∧ ¬ s.BytesLegal .load 0x2FFD#32 4) ∧
    (s.BytesLegal .load 0x2FFE#32 2 ∧ ¬ s.BytesLegal .load 0x2FFF#32 2) ∧
    (s.BytesLegal .load 0x2FFF#32 1 ∧ ¬ s.BytesLegal .load 0x3000#32 1) ∧
    (s.BytesLegal .load 0x2000#32 4 ∧ ¬ s.BytesLegal .load 0x1FFF#32 4) := by decide

theorem witness_LoadAccessFaultExactly :
    let s := start [(6#5, 0x00003000#32)] 0xFFD32283
    s.FetchReady ∧ decode s.fetchedWord = .ok (.lw 5#5 6#5 0xFFD#12) ∧
    exec (.lw 5#5 6#5 0xFFD#12) s = .fault (.loadAccessFault s.pc 0x2FFD#32) :=
  ⟨by decide, decode_of_row (by decide), rfl⟩

/-- The first and last legal addresses of a word, and those next to them. -/
theorem witness_StoresWriteTheBytes :
    let s := setRegs base [(6#5, 0x2000#32), (7#5, 0x3000#32)]
    s.mem.wf ∧
    (effectiveAddr s 6#5 0#12 = 0x2000#32 ∧ s.BytesLegal .store 0x2000#32 4 ∧ s.BytesPlain 0x2000#32 4) ∧
    (effectiveAddr s 7#5 0xFFC#12 = 0x2FFC#32 ∧ s.BytesLegal .store 0x2FFC#32 4 ∧ s.BytesPlain 0x2FFC#32 4) ∧
    (effectiveAddr s 7#5 0xFFE#12 = 0x2FFE#32 ∧ s.BytesLegal .store 0x2FFE#32 2 ∧ ¬ s.BytesLegal .store 0x2FFE#32 4) ∧
    (effectiveAddr s 6#5 0xFFF#12 = 0x1FFF#32 ∧ ¬ s.BytesLegal .store 0x1FFF#32 1) := by decide

theorem witness_StoreAccessFaultExactly :
    let s := start [(6#5, 0x00003000#32), (7#5, 0xAABBCCDD#32)] 0xFE732F23
    s.FetchReady ∧ decode s.fetchedWord = .ok (.sw 6#5 7#5 0xFFE#12) ∧
    exec (.sw 6#5 7#5 0xFFE#12) s = .fault (.storeAccessFault s.pc 0x2FFE#32) :=
  ⟨by decide, decode_of_row (by decide), rfl⟩

/-- A state a store leads to, and the address it stored to, misaligned, read back from it. -/
theorem witness_StoreThenLoadReturnsTheValue :
    let s := setRegs base [(6#5, 0x2000#32), (7#5, 0xAABBCCDD#32)]
    s.mem.wf ∧ 5#5 ≠ 0#5 ∧
    exec (.sw 6#5 7#5 1#12) s = .next (s.stored 0x2001#32 4 0xAABBCCDD#32).retire ∧
    exec (.sh 6#5 7#5 1#12) s = .next (s.stored 0x2001#32 2 0xAABBCCDD#32).retire ∧
    exec (.sb 6#5 7#5 1#12) s = .next (s.stored 0x2001#32 1 0xAABBCCDD#32).retire ∧
    (s.stored 0x2001#32 4 0xAABBCCDD#32).retire.BytesLegal .load
      (effectiveAddr (s.stored 0x2001#32 4 0xAABBCCDD#32).retire 6#5 1#12) 4 ∧
    effectiveAddr (s.stored 0x2001#32 4 0xAABBCCDD#32).retire 6#5 1#12 = effectiveAddr s 6#5 1#12 :=
  ⟨by decide, by decide, rfl, rfl, rfl, by decide, by decide⟩

theorem witness_OnlyStoresChangeMemory :
    let s := start [(6#5, 0x00002000#32), (7#5, 0xAABBCCDD#32)] 0x00730023
    s.mem.wf ∧ ∃ t, step s = .next t ∧ t.mem.read 0x2000 ≠ s.mem.read 0x2000 :=
  ⟨by decide, (start [(6#5, 0x00002000#32), (7#5, 0xAABBCCDD#32)] 0x00730023).stored 0x2000#32 1 0xAABBCCDD#32 |>.retire,
    next_of_after (by decide), by decide⟩

/-- A store, FENCE.I and an instruction that is neither complete. -/
theorem witness_DirtyIsWhatWasStoredSinceFenceI :
    let s := setRegs base [(6#5, 0x2000#32)]
    exec (.sb 6#5 7#5 0#12) s = .next (s.stored 0x2000#32 1 0#32).retire ∧
    exec .fenceI s = .next (State.retire { s with dirty := [] }) ∧ exec (.fence 0#4 0#4) s = .next s.retire :=
  ⟨rfl, rfl, rfl⟩

/-- The last byte of the fetch, and no byte of it, Dirty. -/
theorem witness_DirtyFetchIsRefused :
    let s := setRegs base [(6#5, 0x2000#32)]
    storeAccess (.sb 6#5 7#5 0#12) = some (6#5, 0#12, 1) ∧
    exec (.sb 6#5 7#5 0#12) s = .next (s.stored 0x2000#32 1 0#32).retire ∧
    exec .fenceI s = .next (State.retire { s with dirty := [] }) ∧
    Aligned s.pc ∧ s.BytesLegal .fetch s.pc 4 ∧ s.BytesPlain s.pc 4 ∧
    (∃ j < 4, byteAddr s.pc j ∈ [0x1003]) ∧ ¬ ∃ j < 4, byteAddr s.pc j ∈ [0x1004] :=
  ⟨rfl, rfl, rfl, by decide, by decide, by decide, by decide, by decide⟩

/-- The vectors' state with one I/O byte, at the end of the word at the pc, or of the word at 0x2000. -/
def withIo (a : Nat) : State :=
  { base with
    regions := { base := a, size := 1, kind := .io, fetch := true, load := true, store := true } :: base.regions }

theorem witness_IoAccessIsRefused :
    (Aligned (withIo 0x1003).pc ∧ (withIo 0x1003).BytesLegal .fetch (withIo 0x1003).pc 4 ∧
      ¬ (withIo 0x1003).BytesPlain (withIo 0x1003).pc 4) ∧
    (loadAccess (.lw 5#5 6#5 0#12) = some (6#5, 0#12, 4) ∧ storeAccess (.sw 6#5 5#5 0#12) = some (6#5, 0#12, 4)) ∧
    (let s := setRegs (withIo 0x2003) [(6#5, 0x2000#32)]
     s.BytesLegal .load (effectiveAddr s 6#5 0#12) 4 ∧ s.BytesLegal .store (effectiveAddr s 6#5 0#12) 4 ∧
      ¬ s.BytesPlain (effectiveAddr s 6#5 0#12) 4) := by decide

/-- inst[31:28], rs1 and rd non-zero, one at a time. -/
theorem witness_FenceOnlyAdvances :
    ((start [] 0x1000000F).FetchReady ∧ (start [] 0x1000000F).fetchedWord = 1#4 ++ 0#4 ++ 0#4 ++ 0#5 ++ 0b000#3 ++ 0#5 ++ 0b0001111#7) ∧
    ((start [] 0x0000800F).FetchReady ∧ (start [] 0x0000800F).fetchedWord = 0#4 ++ 0#4 ++ 0#4 ++ 1#5 ++ 0b000#3 ++ 0#5 ++ 0b0001111#7) ∧
    ((start [] 0x0000008F).FetchReady ∧ (start [] 0x0000008F).fetchedWord = 0#4 ++ 0#4 ++ 0#4 ++ 0#5 ++ 0b000#3 ++ 1#5 ++ 0b0001111#7) := by
  decide

theorem witness_FenceIEmptiesDirty :
    ((start [] 0x0010100F).FetchReady ∧ (start [] 0x0010100F).fetchedWord = 1#12 ++ 0#5 ++ 0b001#3 ++ 0#5 ++ 0b0001111#7) ∧
    ((start [] 0x0000108F).FetchReady ∧ (start [] 0x0000108F).fetchedWord = 0#12 ++ 0#5 ++ 0b001#3 ++ 1#5 ++ 0b0001111#7) := by
  decide

/-- CSR numbers next to the six, and the smallest and largest non-zero fields. -/
theorem witness_CsrWritesAndAbsentCsrsAreIllegal :
    0xC03#12 ∉ counterCsrs ∧ 0xBFF#12 ∉ counterCsrs ∧ 0xC83#12 ∉ counterCsrs ∧ 1#5 ≠ 0#5 ∧ 31#5 ≠ 0#5 := by decide

/-- A step that completes, a run of one step that goes on, and one that ends in a trap. -/
theorem witness_InstretCountsCompletedSteps :
    (∃ t, step (start [] 0x13) = .next t) ∧ (∃ t, run 1 (start [] 0x13) = .running t) ∧
    run 1 (start [] 0x00100073) = .trapped (.breakpoint 0x1000#32 0x1000#32) (start [] 0x00100073) :=
  ⟨exists_next_of_after (by decide), ⟨(start [] 0x13).retire, by decide⟩, by decide⟩

theorem witness_CyclesAndTimeRiseOverRuns : ∃ t, run 1 (start [] 0x13) = .running t :=
  ⟨(start [] 0x13).retire, by decide⟩

theorem witness_BreakpointByEveryEbreak :
    (start [] 0x00100073).FetchReady ∧ (start [] 0x00100073).fetchedWord = 0x00100073#32 := by decide

/-- One instruction of each listed-only group. -/
theorem witness_ListedOnlyRows :
    rowGroup (.ld 5#5 6#5 0#12) = .rv64i ∧ rowGroup (.mulw 5#5 6#5 7#5) = .rv64m ∧ rowGroup (.lrW 5#5 6#5 0#1 0#1) = .rv32a ∧
    rowGroup (.scD 5#5 6#5 7#5 1#1 1#1) = .rv64a ∧ rowGroup (.fsqrtS 5#5 6#5 7#3) = .rv32f ∧ rowGroup (.fcvtLS 5#5 6#5 0#3) = .rv64f ∧
    rowGroup (.fld 5#5 6#5 0#12) = .rv32d ∧ rowGroup (.fmvDX 5#5 6#5) = .rv64d := by decide

/-- Each way to raise it: no row, an absent CSR read, a read-only CSR written by the form (CSRRW with x0 and x0), by a
register field and by an immediate field (a read of an existing CSR does not raise). -/
theorem witness_IllegalInstructionExactly :
    step (start [] 0x00000000) = .fault (.illegalInstruction 0x1000#32 0x00000000#32) ∧
    step (start [] 0xC03022F3) = .fault (.illegalInstruction 0x1000#32 0xC03022F3#32) ∧
    step (start [] 0xC0201073) = .fault (.illegalInstruction 0x1000#32 0xC0201073#32) ∧
    step (start [] 0xC02322F3) = .fault (.illegalInstruction 0x1000#32 0xC02322F3#32) ∧
    step (start [] 0xC020E2F3) = .fault (.illegalInstruction 0x1000#32 0xC020E2F3#32) ∧
    (after (start [] 0xC02022F3)).isSome = true :=
  ⟨fault_of_trap (by decide), fault_of_trap (by decide), fault_of_trap (by decide), fault_of_trap (by decide),
    fault_of_trap (by decide), by decide⟩

/-- JAL to 0x2000 and JALR to 0: aligned addresses that are not legal for fetch. -/
theorem witness_InstructionAccessFaultAtTheFetch :
    (Aligned base.pc ∧ Aligned { base with pc := 0x2000#32 }.pc ∧
      ¬ { base with pc := 0x2000#32 }.BytesLegal .fetch 0x2000#32 4) ∧
    (takenTarget base (.jal 1#5 0x1000#21) = some 0x2000#32 ∧ Aligned 0x2000#32 ∧ ¬ base.BytesLegal .fetch 0x2000#32 4) ∧
    (takenTarget base (.jalr 1#5 0#5 1#12) = some 0#32 ∧ Aligned 0#32 ∧ ¬ base.BytesLegal .fetch 0#32 4) := by decide

theorem witness_TrapRecordsArePrecise :
    step (start [] 0x00000073) = .fault (.environmentCall 0x1000#32 0#32) ∧
    run 2 (start [] 0x00000073) = .trapped (.environmentCall 0x1000#32 0#32) (start [] 0x00000073) :=
  ⟨fault_of_trap (by decide), by decide⟩

theorem witness_PhasesOrderExceptions :
    (Aligned { base with pc := 0x3000#32 }.pc ∧ ¬ { base with pc := 0x3000#32 }.BytesLegal .fetch 0x3000#32 4) ∧
    ((start [] 0).FetchReady ∧ decode (start [] 0).fetchedWord = .error .sixteenBit) ∧
    ((start [] 0x73).FetchReady ∧ decode (start [] 0x73).fetchedWord = .ok .ecall) ∧
    (¬ Aligned (effectiveAddr base 0#5 0x7FF#12) ∧ ¬ base.BytesLegal .load (effectiveAddr base 0#5 0x7FF#12) 4) :=
  ⟨by decide, ⟨by decide, rfl⟩, ⟨by decide, decode_of_row (by decide)⟩, by decide⟩

theorem witness_IntegerInstructionsNeverRaise :
    rowGroup (.lui 31#5 0xFFFFF#20) = .integer ∧ rowGroup (.remu 0#5 0#5 0#5) = .mulDiv := by decide

theorem witness_EveryStepKeepsTheInvariant :
    base.Inv ∧ (start [] 0x13).Inv ∧ ∃ t, step (start [] 0x13) = .next t :=
  ⟨by decide, by decide, exists_next_of_after (by decide)⟩

/-- Runs that go on, end in a trap, in a refusal, and in a trap of a misaligned jump. -/
theorem witness_RunsKeepTheInvariant :
    (start [] 0x13).Inv ∧ (start [] 0x002000EF).Inv ∧ { start [] 0x13 with dirty := [0x1003] }.Inv ∧
    run 1 (start [] 0x13) = .running (start [] 0x13).retire ∧
    run 1 (start [] 0x002000EF) =
      .trapped (.instructionAddressMisaligned 0x1000#32 0x1002#32) (start [] 0x002000EF) ∧
    run 1 { start [] 0x13 with dirty := [0x1003] } =
      .refused (.dirtyFetch 0x1000#32) { start [] 0x13 with dirty := [0x1003] } := by decide

theorem witness_StartStatesHaveTheInvariant : base.Start ∧ State.reset.Start := by decide

/-- A step that completes, a register its rd field does not name, and the three opcodes that name none. -/
theorem witness_OnlyRdChanges :
    (∃ t, step (start [] 0x00530013) = .next t) ∧ 5#5 ≠ Field.rd (start [] 0x00530013).fetchedWord ∧
    (exec (.beq 0#5 0#5 8#13) base = .next (base.retireTo 0x1008#32) ∧
      Field.opcode (encode (.beq 0#5 0#5 8#13)) = 0b1100011#7) ∧
    (exec (.sb 6#5 7#5 0#12) (setRegs base [(6#5, 0x2000#32)]) =
        .next ((setRegs base [(6#5, 0x2000#32)]).stored 0x2000#32 1 0#32).retire ∧
      Field.opcode (encode (.sb 6#5 7#5 0#12)) = 0b0100011#7) ∧
    (exec .fenceI base = .next (State.retire { base with dirty := [] }) ∧ Field.opcode (encode .fenceI) = 0b0001111#7) :=
  ⟨exists_next_of_after (by decide), by decide, ⟨rfl, by decide⟩, ⟨rfl, by decide⟩, ⟨rfl, by decide⟩⟩

/-- `lw x5, 0(x6)` or `sw x5, 0(x6)` at the pc, x6 = 0x2000, the last byte of that access I/O. -/
def ioAccessAt (w : Nat) : State := (setRegs (withIo 0x2003) [(6#5, 0x2000#32)]).withFetchWord 32 w

/-- A refused step of each kind (Dirty fetch, I/O fetch, I/O load, I/O store), and a state where nothing is Dirty or I/O. -/
theorem witness_RefusalsAreDirtyOrIo :
    run 1 { start [] 0x13 with dirty := [0x1000] } =
      .refused (.dirtyFetch 0x1000#32) { start [] 0x13 with dirty := [0x1000] } ∧
    run 1 (withIo 0x1003) = .refused (.ioAccess 0x1000#32) (withIo 0x1003) ∧
    run 1 (ioAccessAt 0x00032283) = .refused (.ioAccess 0x2000#32) (ioAccessAt 0x00032283) ∧
    run 1 (ioAccessAt 0x00532023) = .refused (.ioAccess 0x2000#32) (ioAccessAt 0x00532023) ∧
    (State.reset.dirty = [] ∧ ∀ a, State.reset.isIO a = false) := by
  refine ⟨by decide, by decide, by decide, by decide, rfl, fun a => ?_⟩
  simp only [State.isIO, State.regionAt, State.reset, State.resetRegions, List.find?]
  split
  · split at *
    · rename_i h; cases h; rfl
    · simp_all
  · rfl

theorem witness_AddressMapNeverChanges :
    run 1 (start [] 0x13) = .running (start [] 0x13).retire ∧
    run 1 (start [] 0x73) = .trapped (.environmentCall 0x1000#32 0#32) (start [] 0x73) := by decide

/-- At 0x1000, where the bytes are fetchable, and at the last word of the address space, where they are not. -/
theorem witness_PlacedWordIsFetched :
    base.mem.wf ∧ Aligned base.pc ∧ Aligned { base with pc := 0xFFFFFFFC#32 }.pc ∧
    decode 0x13#32 = .ok (.addi 0#5 0#5 0#12) :=
  ⟨by decide, by decide, by decide, decode_of_row (by decide)⟩

end Sys2Proof.Tests
end

/-! The decoder gives well-formed instructions only, and the statement about the step that uses it (O1). A decoder's
answer is checked as `Option.all Instr.wf`: the branch and JAL offsets and the RV64I shift amounts are the operands that
could fail it, and there the fields' own lemmas say why they do not; the other operands are unconstrained. -/

namespace Sys2Proof

/-! ## Rows whose operands are constrained -/

/-- Bit 0 of a branch offset is no bit of the word: it is read as 0 (R91). -/
@[simp] theorem decodeBranch_all_wf (w : Word) : (decodeBranch w).all Instr.wf = true := by
  unfold decodeBranch
  split
  case h_7 => rfl
  all_goals exact branchOffsetOk_bImm w

/-- The RV64I row of the left shifts is met with inst[25] = 1 only (R94, C14). -/
@[simp] theorem decodeShiftLeftImm_all_wf (w : Word) : (decodeShiftLeftImm w).all Instr.wf = true := by
  unfold decodeShiftLeftImm
  split
  next => rfl
  next h => exact (shamt6_of_funct7 (f6 := 0#6) h).1
  next => rfl

/-- The RV64I rows of the right shifts are met with inst[25] = 1 only (R94, C14). -/
@[simp] theorem decodeShiftRightImm_all_wf (w : Word) : (decodeShiftRightImm w).all Instr.wf = true := by
  unfold decodeShiftRightImm
  split
  next => rfl
  next => rfl
  next h => exact (shamt6_of_funct7 (f6 := 0#6) h).1
  next h => exact (shamt6_of_funct7 (f6 := 0b010000#6) h).1
  next => rfl

@[simp] theorem decodeOpImm_all_wf (w : Word) : (decodeOpImm w).all Instr.wf = true := by
  unfold decodeOpImm
  split
  case h_2 => exact decodeShiftLeftImm_all_wf w
  case h_6 => exact decodeShiftRightImm_all_wf w
  all_goals rfl

/-! ## Rows whose operands are free -/

@[simp] theorem decodeJalr_all_wf (w : Word) : (decodeJalr w).all Instr.wf = true := by
  unfold decodeJalr
  split <;> rfl

@[simp] theorem decodeLoad_all_wf (w : Word) : (decodeLoad w).all Instr.wf = true := by
  unfold decodeLoad
  split <;> rfl

@[simp] theorem decodeStore_all_wf (w : Word) : (decodeStore w).all Instr.wf = true := by
  unfold decodeStore
  split <;> rfl

@[simp] theorem decodeOp_all_wf (w : Word) : (decodeOp w).all Instr.wf = true := by
  unfold decodeOp decodeOpBase decodeOpAlt decodeMulDiv
  repeat' split
  all_goals rfl

@[simp] theorem decodeMiscMem_all_wf (w : Word) : (decodeMiscMem w).all Instr.wf = true := by
  unfold decodeMiscMem
  repeat' split
  all_goals rfl

@[simp] theorem decodeSystem_all_wf (w : Word) : (decodeSystem w).all Instr.wf = true := by
  unfold decodeSystem decodePriv
  repeat' split
  all_goals rfl

@[simp] theorem decodeOpImm32_all_wf (w : Word) : (decodeOpImm32 w).all Instr.wf = true := by
  unfold decodeOpImm32
  repeat' split
  all_goals rfl

@[simp] theorem decodeOp32_all_wf (w : Word) : (decodeOp32 w).all Instr.wf = true := by
  unfold decodeOp32
  repeat' split
  all_goals rfl

@[simp] theorem decodeAmo_all_wf (w : Word) : (decodeAmo w).all Instr.wf = true := by
  unfold decodeAmo decodeAmoW decodeAmoD
  repeat' split
  all_goals rfl

@[simp] theorem decodeLoadFp_all_wf (w : Word) : (decodeLoadFp w).all Instr.wf = true := by
  unfold decodeLoadFp
  split <;> rfl

@[simp] theorem decodeStoreFp_all_wf (w : Word) : (decodeStoreFp w).all Instr.wf = true := by
  unfold decodeStoreFp
  split <;> rfl

@[simp] theorem decodeMadd_all_wf (w : Word) : (decodeMadd w).all Instr.wf = true := by
  unfold decodeMadd
  split <;> rfl

@[simp] theorem decodeMsub_all_wf (w : Word) : (decodeMsub w).all Instr.wf = true := by
  unfold decodeMsub
  split <;> rfl

@[simp] theorem decodeNmsub_all_wf (w : Word) : (decodeNmsub w).all Instr.wf = true := by
  unfold decodeNmsub
  split <;> rfl

@[simp] theorem decodeNmadd_all_wf (w : Word) : (decodeNmadd w).all Instr.wf = true := by
  unfold decodeNmadd
  split <;> rfl

@[simp] theorem decodeOpFp_all_wf (w : Word) : (decodeOpFp w).all Instr.wf = true := by
  unfold decodeOpFp decodeFp0010000 decodeFp0010001 decodeFp0010100 decodeFp0010101 decodeFp0100000 decodeFp0100001
    decodeFp0101100 decodeFp0101101 decodeFp1010000 decodeFp1010001 decodeFp1100000 decodeFp1100001 decodeFp1101000
    decodeFp1101001 decodeFp1110000 decodeFp1110001 decodeFp1111000 decodeFp1111001
  repeat' split
  all_goals rfl

/-! ## The decoder -/

theorem decodeRow_all_wf (w : Word) : (decodeRow w).all Instr.wf = true := by
  unfold decodeRow
  split
  case h_1 | h_2 | h_22 => rfl
  case h_3 => exact jumpOffsetOk_jImm w
  all_goals simp

theorem decode_eq_ok {w : Word} {i : Instr} : decode w = .ok i ↔ decodeRow w = some i := by
  unfold decode
  cases decodeRow w <;> simp

/-- What a word decodes to is well-formed: `Instr.wf` refuses no instruction that the decoder gives. -/
theorem wf_of_decode {w : Word} {i : Instr} (h : decode w = .ok i) : i.wf = true := by
  simpa [decode_eq_ok.1 h] using decodeRow_all_wf w

/-! ## The statement -/

open Sys2Proof.Machine in
/-- Settles O1, from the step at a state ready to fetch and the well-formedness of what decodes. -/
theorem stepRunsDecodedInstruction : Obligations.StepRunsDecodedInstruction := by
  intro s i hready hdecode
  exact ⟨step_of_decode hready hdecode, wf_of_decode hdecode⟩

end Sys2Proof

/-! The state (10_state.md): what a completed step makes of the pc, the registers, memory, Dirty and the counters, and what
a run keeps. `exec_next_cases` of Laws/Ops.lean gives the shapes of a completed instruction without the instruction;
`Completes` below ties each shape to its operands, for the statements that speak of them. -/

namespace Sys2Proof

/-! ## The destination register of an instruction -/

/-- The register an instruction writes when it completes: its rd; x0, where nothing is stored, if it has none or never
completes (R20, R22). -/
def Instr.dest : Instr → RegId
  | .lui rd _ | .auipc rd _ | .jal rd _ | .jalr rd _ _ => rd
  | .lb rd _ _ | .lh rd _ _ | .lw rd _ _ | .lbu rd _ _ | .lhu rd _ _ => rd
  | .addi rd _ _ | .slti rd _ _ | .sltiu rd _ _ | .xori rd _ _ | .ori rd _ _ | .andi rd _ _ => rd
  | .slli rd _ _ | .srli rd _ _ | .srai rd _ _ => rd
  | .add rd _ _ | .sub rd _ _ | .sll rd _ _ | .slt rd _ _ | .sltu rd _ _ => rd
  | .xor rd _ _ | .srl rd _ _ | .sra rd _ _ | .or rd _ _ | .and rd _ _ => rd
  | .csrrw rd _ _ | .csrrs rd _ _ | .csrrc rd _ _ | .csrrwi rd _ _ | .csrrsi rd _ _ | .csrrci rd _ _ => rd
  | .mul rd _ _ | .mulh rd _ _ | .mulhsu rd _ _ | .mulhu rd _ _ => rd
  | .div rd _ _ | .divu rd _ _ | .rem rd _ _ | .remu rd _ _ => rd
  | _ => 0#5

/-- An instruction has no destination, or the one that the rd field of the word names. -/
def Instr.destIn (w : Word) (i : Instr) : Bool := decide (i.dest = 0#5) || decide (i.dest = Field.rd w)

theorem decodeLoad_all_destIn (w : Word) : (decodeLoad w).all (Instr.destIn w) = true := by
  unfold decodeLoad
  split <;> simp [Instr.destIn, Instr.dest]

theorem decodeOpImm_all_destIn (w : Word) : (decodeOpImm w).all (Instr.destIn w) = true := by
  unfold decodeOpImm decodeShiftLeftImm decodeShiftRightImm
  repeat' split
  all_goals simp [Instr.destIn, Instr.dest]

theorem decodeOp_all_destIn (w : Word) : (decodeOp w).all (Instr.destIn w) = true := by
  unfold decodeOp decodeOpBase decodeOpAlt decodeMulDiv
  repeat' split
  all_goals simp [Instr.destIn, Instr.dest]

theorem decodeSystem_all_destIn (w : Word) : (decodeSystem w).all (Instr.destIn w) = true := by
  unfold decodeSystem decodePriv
  repeat' split
  all_goals simp [Instr.destIn, Instr.dest]

/-- No row of OP-FP writes an integer register on this hardware, FMV.X.W and its like included (R100). -/
theorem decodeOpFp_all_destIn (w : Word) : (decodeOpFp w).all (Instr.destIn w) = true := by
  unfold decodeOpFp decodeFp0010000 decodeFp0010001 decodeFp0010100 decodeFp0010101 decodeFp0100000 decodeFp0100001
    decodeFp0101100 decodeFp0101101 decodeFp1010000 decodeFp1010001 decodeFp1100000 decodeFp1100001 decodeFp1101000
    decodeFp1101001 decodeFp1110000 decodeFp1110001 decodeFp1111000 decodeFp1111001
  repeat' split
  all_goals rfl

theorem decodeRow_all_destIn (w : Word) : (decodeRow w).all (Instr.destIn w) = true := by
  unfold decodeRow
  split
  case h_1 | h_2 | h_3 => simp [Instr.destIn, Instr.dest]
  case h_4 => unfold decodeJalr; split <;> simp [Instr.destIn, Instr.dest]
  case h_6 => exact decodeLoad_all_destIn w
  case h_8 => exact decodeOpImm_all_destIn w
  case h_9 => exact decodeOp_all_destIn w
  case h_11 => exact decodeSystem_all_destIn w
  case h_5 => unfold decodeBranch; split <;> rfl
  case h_7 => unfold decodeStore; split <;> rfl
  case h_10 =>
    unfold decodeMiscMem
    repeat' split
    all_goals rfl
  case h_12 =>
    unfold decodeOpImm32
    repeat' split
    all_goals rfl
  case h_13 =>
    unfold decodeOp32
    repeat' split
    all_goals rfl
  case h_14 =>
    unfold decodeAmo decodeAmoW decodeAmoD
    repeat' split
    all_goals rfl
  case h_15 => unfold decodeLoadFp; split <;> rfl
  case h_16 => unfold decodeStoreFp; split <;> rfl
  case h_17 => unfold decodeMadd; split <;> rfl
  case h_18 => unfold decodeMsub; split <;> rfl
  case h_19 => unfold decodeNmsub; split <;> rfl
  case h_20 => unfold decodeNmadd; split <;> rfl
  case h_21 => exact decodeOpFp_all_destIn w
  case h_22 => rfl

/-- Decoding takes a destination from inst[11:7] and from nowhere else (R82). -/
theorem dest_of_decode {w : Word} {i : Instr} (h : decode w = .ok i) : i.dest = 0#5 ∨ i.dest = Field.rd w := by
  simpa [decode_eq_ok.1 h, Instr.destIn] using decodeRow_all_destIn w

/-- Branches, stores and the fences have no destination. -/
theorem dest_eq_zero_of_opcode {i : Instr}
    (h : Field.opcode (encode i) = 0b1100011#7 ∨ Field.opcode (encode i) = 0b0100011#7 ∨
      Field.opcode (encode i) = 0b0001111#7) : i.dest = 0#5 := by
  cases i
  case lui | auipc | jal | jalr | lb | lh | lw | lbu | lhu | addi | slti | sltiu | xori | ori | andi | slli | srli | srai |
      add | sub | sll | slt | sltu | xor | srl | sra | or | and | csrrw | csrrs | csrrc | csrrwi | csrrsi | csrrci |
      mul | mulh | mulhsu | mulhu | div | divu | rem | remu => simp [encode] at h
  all_goals rfl

end Sys2Proof

namespace Sys2Proof.Machine

/-! ## The shape of a completed instruction, with the operands of the instruction -/

/-- `t` is what instruction `i`, completing in `s`, makes of `s`: a value in its destination, after a read of a counter for
some; a store; a transfer that is made; or FENCE.I. -/
inductive Completes (i : Instr) (s : State) : State → Prop where
  | result (u : State) (v : Word) (hu : u = s ∨ u = s.drawCycle ∨ u = s.drawTime) (hpc : takenTarget s i = none) :
      Completes i s (u.writeReg i.dest v).retire
  | store (rs1 : RegId) (imm : BitVec 12) (n : Nat) (v : Word) (hpc : takenTarget s i = none)
      (hst : storeAccess i = some (rs1, imm, n)) :
      Completes i s (s.stored (effectiveAddr s rs1 imm) n v).retire
  | transfer (target v : Word) (hpc : takenTarget s i = some target) :
      Completes i s ((s.writeReg i.dest v).retireTo target)
  | fenceI (hi : i = .fenceI) : Completes i s (State.retire { s with dirty := [] })

theorem completes_of_retireWith {i : Instr} {s t : State} {v : Word} (h : retireWith i.dest v s = .next t)
    (hpc : takenTarget s i = none) : Completes i s t := by
  obtain rfl := retireWith_next.1 h
  exact .result s v (.inl rfl) hpc

theorem completes_of_loadInto {i : Instr} {s t : State} {ea v : Word} {n : Nat} (h : loadInto i.dest ea n v s = .next t)
    (hpc : takenTarget s i = none) : Completes i s t := by
  obtain ⟨-, -, rfl⟩ := loadInto_next.1 h
  exact .result s v (.inl rfl) hpc

theorem completes_of_storeFrom {i : Instr} {s t : State} {rs1 : RegId} {imm : BitVec 12} {v : Word} {n : Nat}
    (h : storeFrom (effectiveAddr s rs1 imm) n v s = .next t) (hst : storeAccess i = some (rs1, imm, n))
    (hpc : takenTarget s i = none) : Completes i s t := by
  obtain ⟨-, -, rfl⟩ := storeFrom_next.1 h
  exact .store rs1 imm n v hpc hst

theorem completes_of_jumpAndLink {i : Instr} {s t : State} {target : Word} (h : jumpAndLink i.dest target s = .next t)
    (hpc : takenTarget s i = some target) : Completes i s t := by
  obtain ⟨-, rfl⟩ := jumpAndLink_next.1 h
  exact .transfer target _ hpc

/-- The state after a branch is that after writing x0, which writes nothing. -/
theorem completes_of_branchIf {i : Instr} {s t : State} {taken : Bool} {target : Word}
    (h : branchIf taken target s = .next t) (hpc : takenTarget s i = if taken then some target else none)
    (hrd : i.dest = 0#5) : Completes i s t := by
  have keep (v : Word) : s.writeReg i.dest v = s := by rw [hrd, State.writeReg_zero]
  rcases branchIf_next.1 h with ⟨rfl, -, rfl⟩ | ⟨rfl, rfl⟩
  · have := Completes.transfer target 0#32 hpc
    rwa [keep] at this
  · have := Completes.result s 0#32 (.inl rfl) hpc
    rwa [keep] at this

theorem completes_of_csrAccess {i : Instr} {s t : State} {csr : CsrId} {reads writes : Bool} {new : Word → Word}
    (h : csrAccess i i.dest csr reads writes new s = .next t) (hpc : takenTarget s i = none) : Completes i s t := by
  obtain ⟨-, -, rfl⟩ := csrAccess_next.1 h
  cases reads
  · exact .result s _ (.inl rfl) hpc
  · exact .result _ _ (csrRead_state csr s) hpc

/-! `takenTarget` of the six branches, in the condition and target that their meanings hand to `branchIf`. -/

theorem takenTarget_beq (s : State) (rs1 rs2 : RegId) (imm : BitVec 13) : takenTarget s (.beq rs1 rs2 imm) =
    if equalWords (s.reg rs1) (s.reg rs2) then some (branchTarget s imm) else none := by
  simp [takenTarget, equalWords, branchTarget]

theorem takenTarget_bne (s : State) (rs1 rs2 : RegId) (imm : BitVec 13) : takenTarget s (.bne rs1 rs2 imm) =
    if !equalWords (s.reg rs1) (s.reg rs2) then some (branchTarget s imm) else none := by
  simp [takenTarget, equalWords, branchTarget]

theorem takenTarget_blt (s : State) (rs1 rs2 : RegId) (imm : BitVec 13) : takenTarget s (.blt rs1 rs2 imm) =
    if lessSigned (s.reg rs1) (s.reg rs2) then some (branchTarget s imm) else none := by
  simp [takenTarget, lessSigned, branchTarget]

theorem takenTarget_bge (s : State) (rs1 rs2 : RegId) (imm : BitVec 13) : takenTarget s (.bge rs1 rs2 imm) =
    if !lessSigned (s.reg rs1) (s.reg rs2) then some (branchTarget s imm) else none := by
  simp [takenTarget, lessSigned, branchTarget]

theorem takenTarget_bltu (s : State) (rs1 rs2 : RegId) (imm : BitVec 13) : takenTarget s (.bltu rs1 rs2 imm) =
    if lessUnsigned (s.reg rs1) (s.reg rs2) then some (branchTarget s imm) else none := by
  simp [takenTarget, lessUnsigned, branchTarget]

theorem takenTarget_bgeu (s : State) (rs1 rs2 : RegId) (imm : BitVec 13) : takenTarget s (.bgeu rs1 rs2 imm) =
    if !lessUnsigned (s.reg rs1) (s.reg rs2) then some (branchTarget s imm) else none := by
  simp [takenTarget, lessUnsigned, branchTarget]

/-- Every instruction that answers a next state completes in one of the four shapes. -/
theorem completes_of_exec {i : Instr} {s t : State} (h : exec i s = .next t) : Completes i s t := by
  cases i <;> simp only [exec] at h
  case jal | jalr => exact completes_of_jumpAndLink h rfl
  case beq => exact completes_of_branchIf h (takenTarget_beq ..) rfl
  case bne => exact completes_of_branchIf h (takenTarget_bne ..) rfl
  case blt => exact completes_of_branchIf h (takenTarget_blt ..) rfl
  case bge => exact completes_of_branchIf h (takenTarget_bge ..) rfl
  case bltu => exact completes_of_branchIf h (takenTarget_bltu ..) rfl
  case bgeu => exact completes_of_branchIf h (takenTarget_bgeu ..) rfl
  case lb | lh | lw | lbu | lhu => exact completes_of_loadInto h rfl
  case sb | sh | sw => exact completes_of_storeFrom h rfl rfl
  case csrrw | csrrs | csrrc | csrrwi | csrrsi | csrrci => exact completes_of_csrAccess h rfl
  case fence =>
    obtain rfl := Host.Outcome.next.inj h
    exact .result s 0#32 (.inl rfl) rfl
  case fenceI =>
    obtain rfl := Host.Outcome.next.inj h
    exact .fenceI rfl
  case ecall | ebreak => exact absurd h (raise_ne_next _ _ s t)
  case lui | auipc | addi | slti | sltiu | xori | ori | andi | slli | srli | srai | add | sub | sll | slt | sltu | xor |
      srl | sra | or | and | mul | mulh | mulhsu | mulhu | div | divu | rem | remu => exact completes_of_retireWith h rfl
  all_goals exact absurd h (illegal_ne_next _ s t)

/-! ## What each part of the state is after a completed instruction -/

theorem Completes.pc {i : Instr} {s t : State} (h : Completes i s t) : t.pc = (takenTarget s i).getD (s.pc + 4#32) := by
  cases h with
  | result u v hu hpc => rcases hu with rfl | rfl | rfl <;> simp [hpc]
  | store rs1 imm n v hpc => simp [hpc]
  | transfer target v hpc => simp [hpc]
  | fenceI hi => subst hi; rfl

/-- No register but the destination changes (R22). -/
theorem Completes.reg_of_ne {i : Instr} {s t : State} (h : Completes i s t) {r : RegId} (hr : r ≠ i.dest) :
    t.reg r = s.reg r := by
  cases h with
  | result u v hu => rcases hu with rfl | rfl | rfl <;> simp [State.reg_writeReg_ne, hr]
  | store => simp
  | transfer target v => simp [State.reg_writeReg_ne, hr]
  | fenceI => rfl

/-- An instruction without a destination changes no register: the one that could, x0, reads 0 before and after (R20). -/
theorem Completes.reg_of_dest_eq_zero {i : Instr} {s t : State} (h : Completes i s t) (hd : i.dest = 0#5) (r : RegId) :
    t.reg r = s.reg r := by
  by_cases hr : r = 0#5
  · simp [hr]
  · exact h.reg_of_ne (by rwa [hd])

/-- Only a store changes memory, and only the bytes of its access (R170). -/
theorem Completes.mem_read_ne {i : Instr} {s t : State} (h : Completes i s t) (hm : s.mem.wf) {a : Nat}
    (ha : t.mem.read a ≠ s.mem.read a) :
    ∃ rs1 imm n j, storeAccess i = some (rs1, imm, n) ∧ j < n ∧ a = byteAddr (effectiveAddr s rs1 imm) j := by
  cases h with
  | result u v hu => rcases hu with rfl | rfl | rfl <;> exact absurd rfl ha
  | store rs1 imm n v hpc hst =>
    have hmem : a ∈ accessAddrs (effectiveAddr s rs1 imm) n :=
      Decidable.of_not_not fun hn => ha (Memory.read_writeValue_of_not_mem hm hn)
    obtain ⟨j, hj, he⟩ := mem_accessAddrs_iff.1 hmem
    exact ⟨rs1, imm, n, j, hst, hj, he⟩
  | transfer => exact absurd rfl ha
  | fenceI => exact absurd rfl ha

/-- The three counters over a completed instruction: one more retired, cycle and time not below what they were (R27 to
R29). -/
theorem exec_counters {i : Instr} {s t : State} (h : exec i s = .next t) :
    t.instret = s.instret + 1#64 ∧ s.cycle.toNat ≤ t.cycle.toNat ∧ s.time.toNat ≤ t.time.toNat := by
  rcases exec_next_cases h with ⟨rd, v, rfl⟩ | ⟨ea, n, v, -, rfl⟩ | ⟨rd, v, target, -, rfl⟩ | rfl | ⟨rd, v, rfl | rfl⟩
  · exact ⟨rfl, le_rfl, le_rfl⟩
  · exact ⟨rfl, le_rfl, le_rfl⟩
  · exact ⟨rfl, le_rfl, le_rfl⟩
  · exact ⟨rfl, le_rfl, le_rfl⟩
  · exact ⟨rfl, laterOf_ge_left _ _, le_rfl⟩
  · exact ⟨rfl, le_rfl, laterOf_ge_left _ _⟩

theorem AddrSet.wf_nil : AddrSet.wf [] := ⟨.nil, by simp⟩

/-- An instruction keeps the invariant: the pc goes on by 4 or to a tested target, and a store keeps memory and Dirty in
canonical form. -/
theorem exec_keeps_inv {i : Instr} {s t : State} (hs : s.Inv) (h : exec i s = .next t) : t.Inv := by
  obtain ⟨hm, hd, ha⟩ := hs
  have ha4 : misaligned (s.pc + 4#32) = false := misaligned_eq_false_iff.2 (misaligned_eq_false_iff.1 ha).add_four
  rcases exec_next_cases h with ⟨rd, v, rfl⟩ | ⟨ea, n, v, -, rfl⟩ | ⟨rd, v, target, htgt, rfl⟩ | rfl | ⟨rd, v, rfl | rfl⟩
  · exact ⟨hm, hd, ha4⟩
  · obtain ⟨hm', hd'⟩ := State.stored_wf hm hd ea n v
    exact ⟨hm', hd', ha4⟩
  · exact ⟨hm, hd, htgt⟩
  · exact ⟨hm, AddrSet.wf_nil, ha4⟩
  · exact ⟨hm, hd, ha4⟩
  · exact ⟨hm, hd, ha4⟩

/-! ## Steps -/

/-- A step that completes is the meaning of the instruction its word decodes to. -/
theorem exec_of_step_next {s t : State} (h : step s = .next t) : ∃ i, decode s.fetchedWord = .ok i ∧ exec i s = .next t := by
  simpa [readValue_pc] using step_next h

theorem step_keeps_inv {s t : State} (hs : s.Inv) (h : step s = .next t) : t.Inv := by
  obtain ⟨i, -, hx⟩ := exec_of_step_next h
  exact exec_keeps_inv hs hx

theorem step_counters {s t : State} (h : step s = .next t) :
    t.instret = s.instret + 1#64 ∧ s.cycle.toNat ≤ t.cycle.toNat ∧ s.time.toNat ≤ t.time.toNat := by
  obtain ⟨i, -, hx⟩ := exec_of_step_next h
  exact exec_counters hx

/-- The instructions that raise InstructionAddressMisaligned are the transfers that are made, and the value recorded is
their target (R159). -/
theorem takenTarget_of_exec_misaligned {i : Instr} {s : State} {p v : Word}
    (h : exec i s = .fault (.instructionAddressMisaligned p v)) : takenTarget s i = some v := by
  have branch {taken : Bool} {target : Word} (h : branchIf taken target s = .fault (.instructionAddressMisaligned p v)) :
      (if taken then some target else none) = some v := by
    obtain ⟨ht, -, he⟩ := branchIf_fault.1 h
    rw [if_pos ht, (Fault.instructionAddressMisaligned.inj he).2]
  cases i <;> simp only [exec] at h
  case jal | jalr =>
    obtain ⟨-, he⟩ := jumpAndLink_fault.1 h
    exact congrArg some (Fault.instructionAddressMisaligned.inj he).2.symm
  case beq => exact (takenTarget_beq ..).trans (branch h)
  case bne => exact (takenTarget_bne ..).trans (branch h)
  case blt => exact (takenTarget_blt ..).trans (branch h)
  case bge => exact (takenTarget_bge ..).trans (branch h)
  case bltu => exact (takenTarget_bltu ..).trans (branch h)
  case bgeu => exact (takenTarget_bgeu ..).trans (branch h)
  case lb | lh | lw | lbu | lhu => cases (loadInto_fault.1 h).2
  case sb | sh | sw => cases (storeFrom_fault.1 h).2
  case csrrw | csrrs | csrrc | csrrwi | csrrsi | csrrci => cases (csrAccess_fault.1 h).2
  all_goals cases h

/-- At an aligned pc the fetch does not raise InstructionAddressMisaligned: a transfer that was decoded did. -/
theorem exists_transfer_of_step_misaligned {s : State} {p v : Word} (ha : Aligned s.pc)
    (h : step s = .fault (.instructionAddressMisaligned p v)) :
    ∃ i, decode s.fetchedWord = .ok i ∧ takenTarget s i = some v := by
  rcases step_cases s with ⟨hna, -⟩ | ⟨-, -, e⟩ | ⟨-, -, -, e⟩ | ⟨-, -, -, -, e⟩ | ⟨-, e⟩
  · exact absurd ha hna
  · simp [e] at h
  · simp [e] at h
  · simp [e] at h
  · rw [e, runWord] at h
    split at h
    · exact ⟨_, ‹_›, takenTarget_of_exec_misaligned h⟩
    · cases h

/-! ## Runs -/

/-- `k` completed steps retire `k` instructions, modulo 2^64 (R29). -/
theorem run_instret {k : Nat} {s t : State} (h : run k s = .running t) : t.instret = s.instret + BitVec.ofNat 64 k := by
  induction k generalizing s with
  | zero => simp [RunEnd.running.inj h]
  | succ k ih =>
    unfold run at h
    split at h
    next u hu =>
      calc t.instret = u.instret + BitVec.ofNat 64 k := ih h
        _ = s.instret + 1#64 + BitVec.ofNat 64 k := by rw [(step_counters hu).1]
        _ = s.instret + BitVec.ofNat 64 (k + 1) := by rw [BitVec.add_assoc, ← BitVec.ofNat_add, Nat.add_comm]
    next => cases h
    next => cases h

/-- A run that trapped completed some number of steps below the bound, and the step after them raised (R310). -/
theorem run_trapped {k : Nat} {s t : State} {r : Fault} (h : run k s = .trapped r t) :
    ∃ j < k, run j s = .running t ∧ step t = .fault r := by
  induction k generalizing s with
  | zero => cases h
  | succ k ih =>
    unfold run at h
    split at h
    next u hu =>
      obtain ⟨j, hj, hrun, hraise⟩ := ih h
      exact ⟨j + 1, by omega, by simpa [run, hu] using hrun, hraise⟩
    next r' hr =>
      cases h
      exact ⟨0, by omega, rfl, hr⟩
    next => cases h

end Sys2Proof.Machine

namespace Sys2Proof

/-! ## Reading the counters (44_csr_counters.md) -/

/-- A word of the I-type with the SYSTEM opcode is decoded as the SYSTEM rows are, from the fields it is made of. -/
theorem decode_system {imm : BitVec 12} {f rd : BitVec 5} {f3 : BitVec 3} {i : Instr}
    (h : decodeSystem (iType imm f f3 rd 0b1110011#7) = some i) :
    decode (imm ++ f ++ f3 ++ rd ++ 0b1110011#7) = .ok i := by
  rw [append_eq_iType, decode_eq_ok, decodeRow, Field.opcode_iType]
  exact h

end Sys2Proof

namespace Sys2Proof.Machine

/-- The four forms that read a CSR and do not write it: CSRRS and CSRRC with rs1 = x0, CSRRSI and CSRRCI with uimm = 0
(R202, R203, R205, R206). -/
def csrReadForms (rd : RegId) (csr : CsrId) : List Instr :=
  [.csrrs rd csr 0#5, .csrrc rd csr 0#5, .csrrsi rd csr 0#5, .csrrci rd csr 0#5]

/-- A form that reads and does not write completes on a CSR that exists (R200). -/
theorem csrAccess_read {i : Instr} {rd : RegId} {csr : CsrId} {new : Word → Word} {s : State}
    (hc : csrExists csr = true) :
    csrAccess i rd csr true false new s = .next ((csrRead csr s).2.writeReg rd (csrRead csr s).1).retire :=
  csrAccess_next.2 ⟨hc, rfl, rfl⟩

/-- The four forms do the same: rd has what the read gives, in the state after the read. -/
theorem exec_csrReadForms {rd : RegId} {csr : CsrId} {i : Instr} (hi : i ∈ csrReadForms rd csr)
    (hc : csrExists csr = true) (s : State) :
    exec i s = .next ((csrRead csr s).2.writeReg rd (csrRead csr s).1).retire := by
  simp only [csrReadForms, List.mem_cons, List.not_mem_nil, or_false] at hi
  have hw : fieldSet 0#5 = false := rfl
  rcases hi with rfl | rfl | rfl | rfl <;>
    simp only [exec, execCsrrs, execCsrrc, execCsrrsi, execCsrrci, hw, csrAccess_read hc]

theorem yields_instret {rd : RegId} {i : Instr} (hi : i ∈ csrReadForms rd 0xC02#12) (s : State) :
    Yields i s rd (s.instret.extractLsb' 0 32) := yields_of_retireWith (exec_csrReadForms hi rfl s)

theorem yields_instreth {rd : RegId} {i : Instr} (hi : i ∈ csrReadForms rd 0xC82#12) (s : State) :
    Yields i s rd (s.instret.extractLsb' 32 32) := yields_of_retireWith (exec_csrReadForms hi rfl s)

theorem readsCycle_drawCycle (s : State) (rd : RegId) (lo : Nat) :
    ReadsCycle s (s.drawCycle.writeReg rd (s.drawCycle.cycle.extractLsb' lo 32)).retire rd lo where
  value h := by simp [h]
  rising := laterOf_ge_left _ _
  zero := by simp
  others r h := by simp [State.reg_writeReg_ne, h]
  pc := rfl
  instret := rfl
  time := rfl
  memory _ := rfl
  dirty := rfl
  regions := rfl
  draws := rfl

theorem readsTime_drawTime (s : State) (rd : RegId) (lo : Nat) :
    ReadsTime s (s.drawTime.writeReg rd (s.drawTime.time.extractLsb' lo 32)).retire rd lo where
  value h := by simp [h]
  rising := laterOf_ge_left _ _
  zero := by simp
  others r h := by simp [State.reg_writeReg_ne, h]
  pc := rfl
  instret := rfl
  cycle := rfl
  memory _ := rfl
  dirty := rfl
  regions := rfl
  draws := rfl

theorem exec_reads_cycle {rd : RegId} {i : Instr} (hi : i ∈ csrReadForms rd 0xC00#12) (s : State) :
    ∃ t, exec i s = .next t ∧ ReadsCycle s t rd 0 := ⟨_, exec_csrReadForms hi rfl s, readsCycle_drawCycle s rd 0⟩

theorem exec_reads_cycleh {rd : RegId} {i : Instr} (hi : i ∈ csrReadForms rd 0xC80#12) (s : State) :
    ∃ t, exec i s = .next t ∧ ReadsCycle s t rd 32 := ⟨_, exec_csrReadForms hi rfl s, readsCycle_drawCycle s rd 32⟩

theorem exec_reads_time {rd : RegId} {i : Instr} (hi : i ∈ csrReadForms rd 0xC01#12) (s : State) :
    ∃ t, exec i s = .next t ∧ ReadsTime s t rd 0 := ⟨_, exec_csrReadForms hi rfl s, readsTime_drawTime s rd 0⟩

theorem exec_reads_timeh {rd : RegId} {i : Instr} (hi : i ∈ csrReadForms rd 0xC81#12) (s : State) :
    ∃ t, exec i s = .next t ∧ ReadsTime s t rd 32 := ⟨_, exec_csrReadForms hi rfl s, readsTime_drawTime s rd 32⟩

/-! ## The statements -/

/-- Settles O51: a step that completes is an instruction executed, and each shape of its completion keeps the invariant. -/
theorem everyStepKeepsTheInvariant : Obligations.EveryStepKeepsTheInvariant := fun _ _ => step_keeps_inv

/-- Settles O23: each shape of a completed instruction has the pc that `takenTarget` says. -/
theorem pcAdvancesByFourOrToTheTarget : Obligations.PcAdvancesByFourOrToTheTarget :=
  fun _ _ _ h => (completes_of_exec h).pc

/-- Settles O29: of the shapes of a completed instruction only a store touches memory, and it keeps every other byte. -/
theorem onlyStoresChangeMemory : Obligations.OnlyStoresChangeMemory := by
  intro s t a hm h ha
  obtain ⟨i, hdecode, hx⟩ := exec_of_step_next h
  obtain ⟨rs1, imm, n, j, hst, hj, he⟩ := (completes_of_exec hx).mem_read_ne hm ha
  exact ⟨i, rs1, imm, n, j, hdecode, hst, hj, he⟩

/-- Settles O35: the words decode by their fields, and the reads are those of the four forms that do not write. -/
theorem instretReadsTheCountBefore : Obligations.InstretReadsTheCountBefore := by
  intro rd f csr s
  have low {i : Instr} (hi : i ∈ csrReadForms rd 0xC02#12) := yields_instret hi s
  have high {i : Instr} (hi : i ∈ csrReadForms rd 0xC82#12) := yields_instreth hi s
  refine ⟨decode_system (by simp [decodeSystem]), decode_system (by simp [decodeSystem]),
    decode_system (by simp [decodeSystem]), decode_system (by simp [decodeSystem]),
    low ?_, high ?_, low ?_, high ?_, low ?_, high ?_, low ?_, high ?_⟩
  all_goals simp [csrReadForms]

/-- Settles O36: each of the sixteen is one of the four forms that do not write, on one of the four CSRs. -/
theorem cycleAndTimeReadsNeverDecrease : Obligations.CycleAndTimeReadsNeverDecrease := by
  intro rd s
  have c {i : Instr} (hi : i ∈ csrReadForms rd 0xC00#12) := exec_reads_cycle hi s
  have ch {i : Instr} (hi : i ∈ csrReadForms rd 0xC80#12) := exec_reads_cycleh hi s
  have t {i : Instr} (hi : i ∈ csrReadForms rd 0xC01#12) := exec_reads_time hi s
  have th {i : Instr} (hi : i ∈ csrReadForms rd 0xC81#12) := exec_reads_timeh hi s
  refine ⟨c ?_, ch ?_, t ?_, th ?_, c ?_, ch ?_, t ?_, th ?_, c ?_, ch ?_, t ?_, th ?_, c ?_, ch ?_, t ?_, th ?_⟩
  all_goals simp [csrReadForms]

/-- Settles O38: a step counts itself, a run adds its steps up, and a trapped run is a completed one before it raised. -/
theorem instretCountsCompletedSteps : Obligations.InstretCountsCompletedSteps := by
  refine ⟨fun s t h => (step_counters h).1, fun k s t h => run_instret h, fun k s t r h => ?_⟩
  obtain ⟨j, hj, hrun, hraise⟩ := run_trapped h
  exact ⟨j, hj, hrun, run_instret hrun, hraise⟩

/-- Settles O39: every step keeps "not below the start value", so every run does. -/
theorem cyclesAndTimeRiseOverRuns : Obligations.CyclesAndTimeRiseOverRuns := by
  intro k s
  refine (run_keeps (P := fun t => s.cycle.toNat ≤ t.cycle.toNat ∧ s.time.toNat ≤ t.time.toNat) ?_ k ⟨le_rfl, le_rfl⟩).1
  rintro t u ⟨hc, ht⟩ h
  obtain ⟨-, hc', ht'⟩ := step_counters h
  exact ⟨hc.trans hc', ht.trans ht'⟩

/-- Settles O52: the invariant is kept by every step, and it makes the pc of the step that raised a multiple of 4. -/
theorem runsKeepTheInvariant : Obligations.RunsKeepTheInvariant := by
  intro k s hs
  obtain ⟨hrunning, htrapped, hrefused⟩ := run_keeps (fun _ _ => step_keeps_inv) k hs
  refine ⟨hrunning, htrapped, hrefused, fun t p v h => ?_⟩
  obtain ⟨-, -, ha⟩ := htrapped _ t h
  obtain ⟨j, -, -, hraise⟩ := run_trapped h
  exact exists_transfer_of_step_misaligned (misaligned_eq_false_iff.1 ha) hraise

/-- Settles O54: what the decoder gives has its destination in inst[11:7] or none, and only a destination changes. -/
theorem onlyRdChanges : Obligations.OnlyRdChanges := by
  refine ⟨State.reg_zero, fun s t r h hr => ?_, fun i s t r h hop => ?_⟩
  · obtain ⟨i, hdecode, hx⟩ := exec_of_step_next h
    rcases dest_of_decode hdecode with hd | hd
    · exact (completes_of_exec hx).reg_of_dest_eq_zero hd r
    · exact (completes_of_exec hx).reg_of_ne (by rwa [hd])
  · exact (completes_of_exec h).reg_of_dest_eq_zero (dest_eq_zero_of_opcode hop) r

/-- Settles O53: the empty memory and the empty set are canonical, and reset's pc is 0. -/
theorem startStatesHaveTheInvariant : Obligations.StartStatesHaveTheInvariant := by
  refine ⟨⟨State.reset_mem_wf, rfl, rfl⟩, State.reg_zero _, ?_⟩
  rintro s ⟨hm, hd, ha⟩
  exact ⟨hm, hd ▸ AddrSet.wf_nil, ha⟩

end Sys2Proof.Machine

/-! Memory (20_memory.md): what a store, FENCE.I and every other instruction make of memory, Dirty and the address map, and
which steps are refused. The instructions enter by `loadAccess` and `storeAccess`, so that a statement about the five loads
or the three stores is one about `loadInto` or `storeFrom`. -/

namespace Sys2Proof.Machine

/-! ## The address map -/

/-- `Legal(addr, kind)` is a function of the address map alone (R53). -/
theorem State.legal_congr {s t : State} (h : t.regions = s.regions) : t.legal = s.legal := by
  funext kind a
  simp only [State.legal, State.regionAt, h]

/-- `IsIO(addr)` is a function of the address map alone (R58). -/
theorem State.isIO_congr {s t : State} (h : t.regions = s.regions) : t.isIO = s.isIO := by
  funext a
  simp only [State.isIO, State.regionAt, h]

theorem exec_regions {i : Instr} {s t : State} (h : exec i s = .next t) : t.regions = s.regions := by
  rcases exec_next_cases h with ⟨rd, v, rfl⟩ | ⟨ea, n, v, -, rfl⟩ | ⟨rd, v, target, -, rfl⟩ | rfl | ⟨rd, v, rfl | rfl⟩ <;> rfl

theorem step_regions {s t : State} (h : step s = .next t) : t.regions = s.regions := by
  obtain ⟨i, -, hx⟩ := exec_of_step_next h
  exact exec_regions hx

/-! ## Loads and stores, by the access of the instruction -/

theorem not_bytesPlain_iff {s : State} {a : Word} {n : Nat} :
    ¬ s.BytesPlain a n ↔ ∃ j < n, s.isIO (byteAddr a j) = true := by simp [State.BytesPlain]

/-- The five loads are `loadInto` at the effective address of their access (R171 to R175). -/
theorem exec_of_loadAccess {i : Instr} {rs1 : RegId} {imm : BitVec 12} {n : Nat}
    (h : loadAccess i = some (rs1, imm, n)) (s : State) :
    ∃ rd v, exec i s = loadInto rd (effectiveAddr s rs1 imm) n v s := by
  cases i
  case lb | lh | lw | lbu | lhu => cases h; exact ⟨_, _, rfl⟩
  all_goals cases h

/-- The three stores are `storeFrom` at the effective address of their access (R176 to R178). -/
theorem exec_of_storeAccess {i : Instr} {rs1 : RegId} {imm : BitVec 12} {n : Nat}
    (h : storeAccess i = some (rs1, imm, n)) (s : State) :
    ∃ v, exec i s = storeFrom (effectiveAddr s rs1 imm) n v s := by
  cases i
  case sb | sh | sw => cases h; exact ⟨_, rfl⟩
  all_goals cases h

/-- A load of `n` bytes at `ea`, after a store of `n` bytes of `v` there and with nothing done to memory or the map since,
completes; rd has the low bytes of `v`, extended by `extend` (R51, R60 (a)). -/
theorem loadInto_after_storeFrom {s t u : State} {rd : RegId} {ea v : Word} {n : Nat} (hm : s.mem.wf) (hrd : rd ≠ 0#5)
    (hn : n ≤ 4) (hst : storeFrom ea n v s = .next t) (hmem : u.mem = t.mem) (hmap : u.regions = t.regions)
    (hl : u.BytesLegal .load ea n) (extend : BitVec (8 * n) → Word) :
    ∃ w, loadInto rd ea n (extend (u.mem.readValue ea n)) u = .next w ∧ w.reg rd = extend (v.setWidth (8 * n)) := by
  obtain ⟨-, hio, rfl⟩ := storeFrom_next.1 hst
  have hplain : u.accessIO ea n = false := by rwa [State.accessIO, State.isIO_congr hmap]
  have hvalue : u.mem.readValue ea n = v.setWidth (8 * n) := by
    rw [hmem]
    exact Memory.readValue_writeValue hm ea hn v
  exact ⟨_, loadInto_next.2 ⟨accessLegal_iff.2 hl, hplain, rfl⟩, by simp [hrd, hvalue]⟩

/-! ## Dirty -/

/-- A store adds the bytes of its access to Dirty (R63). -/
theorem mem_dirty_of_store {i : Instr} {s t : State} {rs1 : RegId} {imm : BitVec 12} {n : Nat}
    (hst : storeAccess i = some (rs1, imm, n)) (h : exec i s = .next t) (a : Nat) :
    a ∈ t.dirty ↔ a ∈ s.dirty ∨ ∃ j < n, a = byteAddr (effectiveAddr s rs1 imm) j := by
  obtain ⟨v, hx⟩ := exec_of_storeAccess hst s
  obtain ⟨-, -, rfl⟩ := storeFrom_next.1 (hx.symm.trans h)
  simp [mem_accessAddrs_iff, or_comm]

/-- FENCE.I empties Dirty (R63, R191). -/
theorem dirty_of_fenceI {s t : State} (h : exec .fenceI s = .next t) : t.dirty = [] := by
  obtain rfl := Host.Outcome.next.inj h
  rfl

/-- An instruction that is neither a store nor FENCE.I leaves Dirty as it is (R63). -/
theorem Completes.dirty_eq {i : Instr} {s t : State} (h : Completes i s t) (hst : storeAccess i = none)
    (hf : i ≠ .fenceI) : t.dirty = s.dirty := by
  cases h with
  | result u v hu => rcases hu with rfl | rfl | rfl <;> rfl
  | store rs1 imm n v hpc hst' => cases hst.symm.trans hst'
  | transfer => rfl
  | fenceI hi => exact absurd hi hf

/-! ## Refusals -/

/-- A word fetched is refused only as a load or store with an I/O byte in its own access (R58). -/
theorem runWord_refused {s : State} {w : Word} {why : Refusal} (h : runWord s w = .refused why) :
    ∃ i rs1 imm n, decode w = .ok i ∧ (loadAccess i = some (rs1, imm, n) ∨ storeAccess i = some (rs1, imm, n)) ∧
      why = .ioAccess (effectiveAddr s rs1 imm) ∧ ∃ j < n, s.isIO (byteAddr (effectiveAddr s rs1 imm) j) = true := by
  unfold runWord at h
  split at h
  next i hdecode =>
    obtain ⟨rs1, imm, n, hacc, hwhy, hio⟩ := exec_refused h
    exact ⟨i, rs1, imm, n, hdecode, hacc, hwhy, not_bytesPlain_iff.1 hio⟩
  next => exact absurd h (raise_ne_refused _ _ _ _)

/-- The three ways a step is refused: a Dirty byte or an I/O byte at the pc, or an I/O byte of the load or store
fetched. -/
theorem step_refused {s : State} {why : Refusal} (h : step s = .refused why) :
    (why = .dirtyFetch s.pc ∧ ∃ j < 4, byteAddr s.pc j ∈ s.dirty) ∨
    (why = .ioAccess s.pc ∧ ∃ j < 4, s.isIO (byteAddr s.pc j) = true) ∨
    (s.FetchReady ∧ runWord s s.fetchedWord = .refused why) := by
  rcases step_cases s with ⟨-, e⟩ | ⟨-, -, e⟩ | ⟨-, -, hio, e⟩ | ⟨-, -, -, hdirty, e⟩ | ⟨hready, e⟩ <;> rw [e] at h
  · cases h
  · cases h
  · cases h
    exact .inr (.inl ⟨rfl, not_bytesPlain_iff.1 hio⟩)
  · cases h
    exact .inl ⟨rfl, by simpa [State.BytesClean] using hdirty⟩
  · exact .inr (.inr ⟨hready, h⟩)

/-- A fetch that is aligned, legal and plain is refused for a Dirty byte (R63). -/
theorem step_of_dirty {s : State} (ha : Aligned s.pc) (hl : s.BytesLegal .fetch s.pc 4) (hp : s.BytesPlain s.pc 4)
    (hd : ∃ j < 4, byteAddr s.pc j ∈ s.dirty) : step s = .refused (.dirtyFetch s.pc) := by
  simp [step, fetchThen, misaligned_eq_false_iff.2 ha, accessLegal_iff.2 hl, accessIO_eq_false_iff.2 hp,
    accessDirty_iff.2 hd]

/-- A fetch that is aligned and legal is refused for an I/O byte (R58; log 28). -/
theorem step_of_io {s : State} (ha : Aligned s.pc) (hl : s.BytesLegal .fetch s.pc 4) (hio : ¬ s.BytesPlain s.pc 4) :
    step s = .refused (.ioAccess s.pc) := by
  simp [step, fetchThen, misaligned_eq_false_iff.2 ha, accessLegal_iff.2 hl, accessIO_iff.2 hio]

/-! ## The statements -/

/-- Settles O28: each pair of a store and a load is `loadInto_after_storeFrom`, at 4, 2 and 1 bytes. -/
theorem storeThenLoadReturnsTheValue : Obligations.StoreThenLoadReturnsTheValue := by
  intro s t u rs1 rs2 rd b imm off hm hrd hmem hmap hea
  have load {n : Nat} (hn : n ≤ 4) (hst : storeFrom (effectiveAddr s rs1 imm) n (s.reg rs2) s = .next t)
      (hl : u.BytesLegal .load (effectiveAddr u b off) n) :=
    loadInto_after_storeFrom hm hrd hn (hea ▸ hst) hmem hmap hl (·.setWidth 32)
  refine ⟨fun hst hl => ?_, fun hst hl => ?_, fun hst hl => ?_⟩
  · obtain ⟨w, hw, hv⟩ := load (by omega) hst hl
    exact ⟨w, hw, by simpa using hv⟩
  · obtain ⟨w, hw, hv⟩ := load (by omega) hst hl
    exact ⟨w, hw, by rw [hv, BitVec.toNat_setWidth_of_le (by omega), BitVec.toNat_setWidth]⟩
  · obtain ⟨w, hw, hv⟩ := load (by omega) hst hl
    exact ⟨w, hw, by rw [hv, BitVec.toNat_setWidth_of_le (by omega), BitVec.toNat_setWidth]⟩

/-- Settles O30: a store adds the bytes of its access, FENCE.I leaves none, every other shape of a completed instruction
has the Dirty of before. -/
theorem dirtyIsWhatWasStoredSinceFenceI : Obligations.DirtyIsWhatWasStoredSinceFenceI := by
  intro i s t a h
  by_cases hf : i = .fenceI
  · subst hf
    simp [dirty_of_fenceI h]
  · cases hst : storeAccess i with
    | none => simp [(completes_of_exec h).dirty_eq hst hf, hf]
    | some access =>
      obtain ⟨rs1, imm, n⟩ := access
      rw [mem_dirty_of_store hst h]
      simp [hf]

/-- Settles O31: the clauses are R63's, and a fetch that only Dirty can stop is refused as `dirtyFetch` by no later phase
of the step. -/
theorem dirtyFetchIsRefused : Obligations.DirtyFetchIsRefused := by
  refine ⟨rfl, fun i s t rs1 imm n hst h => mem_dirty_of_store hst h, fun s t => dirty_of_fenceI,
    fun s ha hl hp => ⟨fun h => ?_, step_of_dirty ha hl hp⟩⟩
  rcases step_refused h with ⟨-, hd⟩ | ⟨hwhy, -⟩ | ⟨-, hrun⟩
  · exact hd
  · cases hwhy
  · obtain ⟨i, rs1, imm, n, -, -, hwhy, -⟩ := runWord_refused hrun
    cases hwhy

/-- Settles O32: the fetch, `loadInto` and `storeFrom` each look at I/O once every byte is legal. -/
theorem ioAccessIsRefused : Obligations.IoAccessIsRefused := by
  refine ⟨fun s => step_of_io, fun i s rs1 imm n hacc hl hio => ?_, fun i s rs1 imm n hacc hl hio => ?_⟩
  · obtain ⟨rd, v, hx⟩ := exec_of_loadAccess hacc s
    exact hx.trans (loadInto_refused.2 ⟨accessLegal_iff.2 hl, accessIO_iff.2 hio, rfl⟩)
  · obtain ⟨v, hx⟩ := exec_of_storeAccess hacc s
    exact hx.trans (storeFrom_refused.2 ⟨accessLegal_iff.2 hl, accessIO_iff.2 hio, rfl⟩)

/-- Settles O55: the three ways a step is refused each name a byte that is Dirty or I/O, so with none it is not refused. -/
theorem refusalsAreDirtyOrIo : Obligations.RefusalsAreDirtyOrIo := by
  refine ⟨fun s why h => (step_refused h).imp_right (.imp_right (.imp_right runWord_refused)), fun s hdirty hio => ?_⟩
  cases h : step s with
  | next t => exact .inl ⟨t, rfl⟩
  | fault r => exact .inr ⟨r, rfl⟩
  | refused why =>
    rcases step_refused h with ⟨-, j, -, hj⟩ | ⟨-, j, -, hj⟩ | ⟨-, hrun⟩
    · simp [hdirty] at hj
    · simp [hio] at hj
    · obtain ⟨i, rs1, imm, n, -, -, -, j, -, hj⟩ := runWord_refused hrun
      simp [hio] at hj

/-- Settles O56: every step keeps "the map is that of the start", so every run does. -/
theorem addressMapNeverChanges : Obligations.AddressMapNeverChanges := by
  intro k s t h
  obtain ⟨hrunning, htrapped, -⟩ :=
    run_keeps (P := fun t => t.regions = s.regions) (fun _ _ ht hstep => (step_regions hstep).trans ht) k rfl
  have hmap : t.regions = s.regions := h.elim (hrunning t) fun ⟨r, hr⟩ => htrapped r t hr
  exact ⟨hmap, fun kind a => by rw [State.legal_congr hmap], fun a => by rw [State.isIO_congr hmap]⟩

end Sys2Proof.Machine

/-! The encoding (30_encoding.md): decode and encode are inverse to each other on the well-formed instructions, the decoder is
what the mask and match columns of the opcode table say, the words outside the table, the immediates bit by bit, and NOP. -/

namespace Sys2Proof

/-! ## A word whose select bits are known is the encoded word of its own operand fields

Each lemma is a format's `_fields` lemma of Laws/Decode.lean at the values that the decoder has found in the select fields. -/

section
variable {w : Word} {rs1 rs2 rd : RegId} {f3 : BitVec 3} {op : BitVec 7}

theorem rType_of_fields {f7 : BitVec 7} (h7 : Field.funct7 w = f7) (h2 : Field.rs2 w = rs2) (h3 : Field.funct3 w = f3)
    (hop : Field.opcode w = op) : rType f7 rs2 (Field.rs1 w) f3 (Field.rd w) op = w := by
  subst h7 h2 h3 hop
  exact rType_fields w

theorem iType_of_fields (h3 : Field.funct3 w = f3) (hop : Field.opcode w = op) :
    iType (Field.iImm w) (Field.rs1 w) f3 (Field.rd w) op = w := by
  subst h3 hop
  exact iType_fields w

/-- The I-type with every field selected: FENCE.I, ECALL and EBREAK (R96, R97). -/
theorem iType_of_all_fields {imm : BitVec 12} (himm : Field.iImm w = imm) (h1 : Field.rs1 w = rs1)
    (h3 : Field.funct3 w = f3) (hrd : Field.rd w = rd) (hop : Field.opcode w = op) : iType imm rs1 f3 rd op = w := by
  subst himm h1 h3 hrd hop
  exact iType_fields w

theorem sType_of_fields (h3 : Field.funct3 w = f3) (hop : Field.opcode w = op) :
    sType (Field.sImm w) (Field.rs2 w) (Field.rs1 w) f3 op = w := by
  subst h3 hop
  exact sType_fields w

theorem bType_of_fields (h3 : Field.funct3 w = f3) (hop : Field.opcode w = op) :
    bType (Field.bImm w) (Field.rs2 w) (Field.rs1 w) f3 op = w := by
  subst h3 hop
  exact bType_fields w

theorem uType_of_fields (hop : Field.opcode w = op) : uType (Field.uImm w) (Field.rd w) op = w := by
  subst hop
  exact uType_fields w

theorem jType_of_fields (hop : Field.opcode w = op) : jType (Field.jImm w) (Field.rd w) op = w := by
  subst hop
  exact jType_fields w

theorem fenceType_of_fields (hfm : Field.fm w = 0#4) (h1 : Field.rs1 w = 0#5) (hrd : Field.rd w = 0#5)
    (h3 : Field.funct3 w = f3) (hop : Field.opcode w = 0b0001111#7) : fenceType (Field.pred w) (Field.succ w) f3 = w := by
  subst h3
  exact fenceType_fields w hfm h1 hrd hop

/-- The RV64I shift rows, met with inst[25] = 1 (R94, C14). -/
theorem shift64Type_of_fields {f6 : BitVec 6} (h7 : Field.funct7 w = place 7 1 f6 ||| 1#7) (h3 : Field.funct3 w = f3)
    (hop : Field.opcode w = op) : shift64Type f6 (Field.shamt6 w) (Field.rs1 w) f3 (Field.rd w) op = w := by
  obtain ⟨-, rfl⟩ := shamt6_of_funct7 h7
  subst h3 hop
  exact shift64Type_fields w

theorem amoType_of_fields {f5 : BitVec 5} (h5 : Field.funct5 w = f5) (h2 : Field.rs2 w = rs2) (h3 : Field.funct3 w = f3)
    (hop : Field.opcode w = op) :
    amoType f5 (Field.aq w) (Field.rl w) rs2 (Field.rs1 w) f3 (Field.rd w) op = w := by
  subst h5 h2 h3 hop
  exact amoType_fields w

theorem r4Type_of_fields {f2 : BitVec 2} (h2 : Field.funct2 w = f2) (hop : Field.opcode w = op) :
    r4Type (Field.funct5 w) f2 (Field.rs2 w) (Field.rs1 w) (Field.funct3 w) (Field.rd w) op = w := by
  subst h2 hop
  exact r4Type_fields w

end

/-! ## What a decoder answers encodes to the word decoded, one lemma for each major opcode (R98) -/

section
variable {w : Word} {i : Instr}

theorem encode_of_decodeJalr (hop : Field.opcode w = 0b1100111#7) (h : decodeJalr w = some i) : encode i = w := by
  unfold decodeJalr at h
  split at h <;> cases h
  exact iType_of_fields ‹_› hop

theorem encode_of_decodeBranch (hop : Field.opcode w = 0b1100011#7) (h : decodeBranch w = some i) : encode i = w := by
  unfold decodeBranch at h
  split at h <;> cases h
  all_goals exact bType_of_fields ‹_› hop

theorem encode_of_decodeLoad (hop : Field.opcode w = 0b0000011#7) (h : decodeLoad w = some i) : encode i = w := by
  unfold decodeLoad at h
  split at h <;> cases h
  all_goals exact iType_of_fields ‹_› hop

theorem encode_of_decodeStore (hop : Field.opcode w = 0b0100011#7) (h : decodeStore w = some i) : encode i = w := by
  unfold decodeStore at h
  split at h <;> cases h
  all_goals exact sType_of_fields ‹_› hop

theorem encode_of_decodeShiftLeftImm (hop : Field.opcode w = 0b0010011#7) (h3 : Field.funct3 w = 0b001#3)
    (h : decodeShiftLeftImm w = some i) : encode i = w := by
  unfold decodeShiftLeftImm at h
  split at h <;> cases h
  case h_1 h7 => exact rType_of_fields h7 rfl h3 hop
  case h_2 h7 => exact shift64Type_of_fields h7 h3 hop

theorem encode_of_decodeShiftRightImm (hop : Field.opcode w = 0b0010011#7) (h3 : Field.funct3 w = 0b101#3)
    (h : decodeShiftRightImm w = some i) : encode i = w := by
  unfold decodeShiftRightImm at h
  split at h <;> cases h
  case h_1 h7 | h_2 h7 => exact rType_of_fields h7 rfl h3 hop
  case h_3 h7 | h_4 h7 => exact shift64Type_of_fields h7 h3 hop

theorem encode_of_decodeOpImm (hop : Field.opcode w = 0b0010011#7) (h : decodeOpImm w = some i) : encode i = w := by
  unfold decodeOpImm at h
  split at h
  case h_2 h3 => exact encode_of_decodeShiftLeftImm hop h3 h
  case h_6 h3 => exact encode_of_decodeShiftRightImm hop h3 h
  case h_9 => cases h
  all_goals
    cases h
    exact iType_of_fields ‹_› hop

theorem encode_of_decodeOp (hop : Field.opcode w = 0b0110011#7) (h : decodeOp w = some i) : encode i = w := by
  unfold decodeOp decodeOpBase decodeOpAlt decodeMulDiv at h
  repeat' split at h
  all_goals cases h
  all_goals exact rType_of_fields ‹_› rfl ‹_› hop

theorem encode_of_decodeMiscMem (hop : Field.opcode w = 0b0001111#7) (h : decodeMiscMem w = some i) : encode i = w := by
  unfold decodeMiscMem at h
  repeat' split at h
  all_goals cases h
  case h_1.isTrue h3 hzero =>
    obtain ⟨hfm, h1, hrd⟩ := hzero
    exact fenceType_of_fields hfm h1 hrd h3 hop
  case h_2.isTrue h3 hzero =>
    obtain ⟨himm, h1, hrd⟩ := hzero
    exact iType_of_all_fields himm h1 h3 hrd hop

theorem encode_of_decodePriv (hop : Field.opcode w = 0b1110011#7) (h3 : Field.funct3 w = 0b000#3)
    (h : decodePriv w = some i) : encode i = w := by
  unfold decodePriv at h
  split at h
  case isFalse => cases h
  case isTrue hzero =>
    obtain ⟨h1, hrd⟩ := hzero
    split at h <;> cases h
    all_goals exact iType_of_all_fields ‹_› h1 h3 hrd hop

theorem encode_of_decodeSystem (hop : Field.opcode w = 0b1110011#7) (h : decodeSystem w = some i) : encode i = w := by
  unfold decodeSystem at h
  split at h
  case h_1 h3 => exact encode_of_decodePriv hop h3 h
  case h_8 => cases h
  all_goals
    cases h
    exact iType_of_fields ‹_› hop

theorem encode_of_decodeOpImm32 (hop : Field.opcode w = 0b0011011#7) (h : decodeOpImm32 w = some i) : encode i = w := by
  unfold decodeOpImm32 at h
  split at h
  case h_1 h3 =>
    cases h
    exact iType_of_fields h3 hop
  case h_2 h3 | h_3 h3 =>
    split at h <;> cases h
    all_goals exact rType_of_fields ‹_› rfl h3 hop
  case h_4 => cases h

theorem encode_of_decodeOp32 (hop : Field.opcode w = 0b0111011#7) (h : decodeOp32 w = some i) : encode i = w := by
  unfold decodeOp32 at h
  repeat' split at h
  all_goals cases h
  all_goals exact rType_of_fields ‹_› rfl ‹_› hop

theorem encode_of_decodeAmoW (hop : Field.opcode w = 0b0101111#7) (h3 : Field.funct3 w = 0b010#3)
    (h : decodeAmoW w = some i) : encode i = w := by
  unfold decodeAmoW at h
  split at h
  case h_1 h5 =>
    split at h <;> cases h
    exact amoType_of_fields h5 ‹_› h3 hop
  all_goals cases h
  all_goals exact amoType_of_fields ‹_› rfl h3 hop

theorem encode_of_decodeAmoD (hop : Field.opcode w = 0b0101111#7) (h3 : Field.funct3 w = 0b011#3)
    (h : decodeAmoD w = some i) : encode i = w := by
  unfold decodeAmoD at h
  split at h
  case h_1 h5 =>
    split at h <;> cases h
    exact amoType_of_fields h5 ‹_› h3 hop
  all_goals cases h
  all_goals exact amoType_of_fields ‹_› rfl h3 hop

theorem encode_of_decodeAmo (hop : Field.opcode w = 0b0101111#7) (h : decodeAmo w = some i) : encode i = w := by
  unfold decodeAmo at h
  split at h
  case h_1 h3 => exact encode_of_decodeAmoW hop h3 h
  case h_2 h3 => exact encode_of_decodeAmoD hop h3 h
  case h_3 => cases h

theorem encode_of_decodeLoadFp (hop : Field.opcode w = 0b0000111#7) (h : decodeLoadFp w = some i) : encode i = w := by
  unfold decodeLoadFp at h
  split at h <;> cases h
  all_goals exact iType_of_fields ‹_› hop

theorem encode_of_decodeStoreFp (hop : Field.opcode w = 0b0100111#7) (h : decodeStoreFp w = some i) : encode i = w := by
  unfold decodeStoreFp at h
  split at h <;> cases h
  all_goals exact sType_of_fields ‹_› hop

theorem encode_of_decodeMadd (hop : Field.opcode w = 0b1000011#7) (h : decodeMadd w = some i) : encode i = w := by
  unfold decodeMadd at h
  split at h <;> cases h
  all_goals exact r4Type_of_fields ‹_› hop

theorem encode_of_decodeMsub (hop : Field.opcode w = 0b1000111#7) (h : decodeMsub w = some i) : encode i = w := by
  unfold decodeMsub at h
  split at h <;> cases h
  all_goals exact r4Type_of_fields ‹_› hop

theorem encode_of_decodeNmsub (hop : Field.opcode w = 0b1001011#7) (h : decodeNmsub w = some i) : encode i = w := by
  unfold decodeNmsub at h
  split at h <;> cases h
  all_goals exact r4Type_of_fields ‹_› hop

theorem encode_of_decodeNmadd (hop : Field.opcode w = 0b1001111#7) (h : decodeNmadd w = some i) : encode i = w := by
  unfold decodeNmadd at h
  split at h <;> cases h
  all_goals exact r4Type_of_fields ‹_› hop

/-- A row of OP-FP selects by funct7 and, of rs2 and funct3, by none, one or both; what it does not select is an operand
(R273 to R276). -/
theorem encode_of_decodeOpFp (hop : Field.opcode w = 0b1010011#7) (h : decodeOpFp w = some i) : encode i = w := by
  have rs2_operand : Field.rs2 w = Field.rs2 w := rfl
  have rm_operand : Field.funct3 w = Field.funct3 w := rfl
  unfold decodeOpFp decodeFp0010000 decodeFp0010001 decodeFp0010100 decodeFp0010101 decodeFp0100000 decodeFp0100001
    decodeFp0101100 decodeFp0101101 decodeFp1010000 decodeFp1010001 decodeFp1100000 decodeFp1100001 decodeFp1101000
    decodeFp1101001 decodeFp1110000 decodeFp1110001 decodeFp1111000 decodeFp1111001 at h
  repeat' split at h
  all_goals cases h
  all_goals exact rType_of_fields ‹_› ‹_› ‹_› hop

theorem encode_of_decodeRow (h : decodeRow w = some i) : encode i = w := by
  unfold decodeRow at h
  split at h
  case h_1 hop | h_2 hop =>
    cases h
    exact uType_of_fields hop
  case h_3 hop =>
    cases h
    exact jType_of_fields hop
  case h_4 hop => exact encode_of_decodeJalr hop h
  case h_5 hop => exact encode_of_decodeBranch hop h
  case h_6 hop => exact encode_of_decodeLoad hop h
  case h_7 hop => exact encode_of_decodeStore hop h
  case h_8 hop => exact encode_of_decodeOpImm hop h
  case h_9 hop => exact encode_of_decodeOp hop h
  case h_10 hop => exact encode_of_decodeMiscMem hop h
  case h_11 hop => exact encode_of_decodeSystem hop h
  case h_12 hop => exact encode_of_decodeOpImm32 hop h
  case h_13 hop => exact encode_of_decodeOp32 hop h
  case h_14 hop => exact encode_of_decodeAmo hop h
  case h_15 hop => exact encode_of_decodeLoadFp hop h
  case h_16 hop => exact encode_of_decodeStoreFp hop h
  case h_17 hop => exact encode_of_decodeMadd hop h
  case h_18 hop => exact encode_of_decodeMsub hop h
  case h_19 hop => exact encode_of_decodeNmsub hop h
  case h_20 hop => exact encode_of_decodeNmadd hop h
  case h_21 hop => exact encode_of_decodeOpFp hop h
  case h_22 => cases h

end

/-- The word of an instruction that decode gave is the word decoded. -/
theorem encode_of_decode {w : Word} {i : Instr} (h : decode w = .ok i) : encode i = w :=
  encode_of_decodeRow (decode_eq_ok.1 h)

/-- Settles O3: well-formedness is `wf_of_decode`, and no bit is dropped since a word is made of its fields. -/
theorem encodeOfDecodedIsTheWord : Obligations.EncodeOfDecodedIsTheWord := by
  intro w i h
  exact ⟨wf_of_decode h, encode_of_decode h⟩

/-! ## The word of a well-formed instruction is decoded to the instruction -/

theorem jumpOffsetOk_iff {imm : BitVec 21} : jumpOffsetOk imm = true ↔ imm.getLsbD 0 = false := by simp [jumpOffsetOk]

theorem branchOffsetOk_iff {imm : BitVec 13} : branchOffsetOk imm = true ↔ imm.getLsbD 0 = false := by
  simp [branchOffsetOk]

/-- The RV64I shift words of well-formed instructions have inst[25] = 1, which no RV32I shift has (R94, C14). -/
theorem Field.funct7_shift64Type_of_wf {shamt : BitVec 6} (h : rv64ShamtOk shamt = true) (f6 : BitVec 6) (rs1 : RegId)
    (f3 : BitVec 3) (rd : RegId) (op : BitVec 7) :
    Field.funct7 (shift64Type f6 shamt rs1 f3 rd op) = place 7 1 f6 ||| 1#7 := by
  rw [Field.funct7_shift64Type, funct7_of_rv64Shamt h]

/-- The select bits that the encoder wrote choose the row, and the fields that it wrote are the operands. Bit 0 of the
offsets of JAL and the branches and inst[25] of the RV64I shifts are where well-formedness is needed. -/
theorem decodeRow_encode {i : Instr} (hwf : i.wf = true) : decodeRow (encode i) = some i := by
  cases i
  case lui | auipc => simp [encode, decodeRow]
  case jal rd imm => simp [encode, decodeRow, Field.jImm_jType imm rd _ (jumpOffsetOk_iff.1 hwf)]
  case jalr => simp [encode, decodeRow, decodeJalr]
  case beq rs1 rs2 imm | bne rs1 rs2 imm | blt rs1 rs2 imm | bge rs1 rs2 imm | bltu rs1 rs2 imm | bgeu rs1 rs2 imm =>
    simp [encode, decodeRow, decodeBranch, Field.bImm_bType imm rs2 rs1 _ _ (branchOffsetOk_iff.1 hwf)]
  case lb | lh | lw | lbu | lhu | lwu | ld => simp [encode, decodeRow, decodeLoad]
  case sb | sh | sw | sd => simp [encode, decodeRow, decodeStore]
  case addi | slti | sltiu | xori | ori | andi => simp [encode, decodeRow, decodeOpImm]
  case slli => simp [encode, decodeRow, decodeOpImm, decodeShiftLeftImm]
  case srli | srai => simp [encode, decodeRow, decodeOpImm, decodeShiftRightImm]
  case slliRv64 =>
    simp [encode, decodeRow, decodeOpImm, decodeShiftLeftImm, Field.funct7_shift64Type_of_wf hwf,
      -Field.funct7_shift64Type, place]
  case srliRv64 | sraiRv64 =>
    simp [encode, decodeRow, decodeOpImm, decodeShiftRightImm, Field.funct7_shift64Type_of_wf hwf,
      -Field.funct7_shift64Type, place]
  case add | sll | slt | sltu | xor | srl | or | and => simp [encode, decodeRow, decodeOp, decodeOpBase]
  case sub | sra => simp [encode, decodeRow, decodeOp, decodeOpAlt]
  case mul | mulh | mulhsu | mulhu | div | divu | rem | remu => simp [encode, decodeRow, decodeOp, decodeMulDiv]
  case fence | fenceI => simp [encode, decodeRow, decodeMiscMem]
  case ecall | ebreak => simp [encode, decodeRow, decodeSystem, decodePriv]
  case csrrw | csrrs | csrrc | csrrwi | csrrsi | csrrci => simp [encode, decodeRow, decodeSystem]
  case addiw | slliw | srliw | sraiw => simp [encode, decodeRow, decodeOpImm32]
  case addw | subw | sllw | srlw | sraw | mulw | divw | divuw | remw | remuw => simp [encode, decodeRow, decodeOp32]
  case lrW | scW | amoswapW | amoaddW | amoxorW | amoandW | amoorW | amominW | amomaxW | amominuW | amomaxuW =>
    simp [encode, decodeRow, decodeAmo, decodeAmoW]
  case lrD | scD | amoswapD | amoaddD | amoxorD | amoandD | amoorD | amominD | amomaxD | amominuD | amomaxuD =>
    simp [encode, decodeRow, decodeAmo, decodeAmoD]
  case flw | fld => simp [encode, decodeRow, decodeLoadFp]
  case fsw | fsd => simp [encode, decodeRow, decodeStoreFp]
  case fmaddS | fmaddD => simp [encode, decodeRow, decodeMadd]
  case fmsubS | fmsubD => simp [encode, decodeRow, decodeMsub]
  case fnmsubS | fnmsubD => simp [encode, decodeRow, decodeNmsub]
  case fnmaddS | fnmaddD => simp [encode, decodeRow, decodeNmadd]
  case faddS | fsubS | fmulS | fdivS | faddD | fsubD | fmulD | fdivD => simp [encode, decodeRow, decodeOpFp]
  case fsgnjS | fsgnjnS | fsgnjxS => simp [encode, decodeRow, decodeOpFp, decodeFp0010000]
  case fsgnjD | fsgnjnD | fsgnjxD => simp [encode, decodeRow, decodeOpFp, decodeFp0010001]
  case fminS | fmaxS => simp [encode, decodeRow, decodeOpFp, decodeFp0010100]
  case fminD | fmaxD => simp [encode, decodeRow, decodeOpFp, decodeFp0010101]
  case fcvtSD => simp [encode, decodeRow, decodeOpFp, decodeFp0100000]
  case fcvtDS => simp [encode, decodeRow, decodeOpFp, decodeFp0100001]
  case fsqrtS => simp [encode, decodeRow, decodeOpFp, decodeFp0101100]
  case fsqrtD => simp [encode, decodeRow, decodeOpFp, decodeFp0101101]
  case feqS | fltS | fleS => simp [encode, decodeRow, decodeOpFp, decodeFp1010000]
  case feqD | fltD | fleD => simp [encode, decodeRow, decodeOpFp, decodeFp1010001]
  case fcvtWS | fcvtWuS | fcvtLS | fcvtLuS => simp [encode, decodeRow, decodeOpFp, decodeFp1100000]
  case fcvtWD | fcvtWuD | fcvtLD | fcvtLuD => simp [encode, decodeRow, decodeOpFp, decodeFp1100001]
  case fcvtSW | fcvtSWu | fcvtSL | fcvtSLu => simp [encode, decodeRow, decodeOpFp, decodeFp1101000]
  case fcvtDW | fcvtDWu | fcvtDL | fcvtDLu => simp [encode, decodeRow, decodeOpFp, decodeFp1101001]
  case fmvXW | fclassS => simp [encode, decodeRow, decodeOpFp, decodeFp1110000]
  case fmvXD | fclassD => simp [encode, decodeRow, decodeOpFp, decodeFp1110001]
  case fmvWX => simp [encode, decodeRow, decodeOpFp, decodeFp1111000]
  case fmvDX => simp [encode, decodeRow, decodeOpFp, decodeFp1111001]

/-- Settles O2, by the row that the select bits of each instruction's word choose. -/
theorem decodeOfEncodeIsIdentity : Obligations.DecodeOfEncodeIsIdentity := by
  intro i hwf
  exact decode_eq_ok.2 (decodeRow_encode hwf)

end Sys2Proof

namespace Sys2Proof.Machine

/-! ## The mask of a row keeps the select bits of its word and drops the operands (R99, R270) -/

/-- A field that lies outside a mask is dropped by it. -/
theorem place_and_eq_zero {n m lo : Nat} {v : BitVec n} {mask : BitVec m} (h : mask.extractLsb' lo n = 0#n) :
    place m lo v &&& mask = 0#m := by
  refine BitVec.eq_of_getLsbD_eq fun i hi => ?_
  simp only [BitVec.getLsbD_and, getLsbD_place, BitVec.getLsbD_zero]
  by_cases hin : lo ≤ i ∧ i - lo < n
  · have hbit : mask.getLsbD i = false := by
      simpa [BitVec.getLsbD_extractLsb', hin] using congrArg (·.getLsbD (i - lo)) h
    simp [hbit]
  · rcases not_and_or.1 hin with hlo | hn
    · simp [hlo]
    · simp [BitVec.getLsbD_of_ge v (i - lo) (by omega)]

/-- The word of an instruction matches the row of the instruction: the mask drops every operand, whatever its value, and
what the encoder wrote in the select fields is the row's match. -/
theorem encode_and_rowMask (i : Instr) : encode i &&& rowMask i = rowMatch i := by
  cases i
  all_goals
    simp only [encode, rowMask, rType, iType, sType, bType, uType, jType, fenceType, shift64Type, amoType, r4Type,
      BitVec.and_or_distrib_right, place_and_eq_zero, BitVec.reduceExtractLsb', BitVec.or_zero, BitVec.zero_or]
    rfl

/-! ## A word that matches a row has the select bits of the row's words -/

/-- Every mask covers the major opcode (R98). -/
theorem rowMask_opcode (i : Instr) : (rowMask i).extractLsb' 0 7 = BitVec.allOnes 7 := by
  cases i
  all_goals
    rw [rowMask]
    decide

section
variable {w : Word} {j : Instr}

/-- A field that the mask covers. -/
theorem extract_of_rowMatch (h : w &&& rowMask j = rowMatch j) {lo n : Nat}
    (hm : (rowMask j).extractLsb' lo n = BitVec.allOnes n) : w.extractLsb' lo n = (encode j).extractLsb' lo n := by
  have e := congrArg (BitVec.extractLsb' lo n) (h.trans (encode_and_rowMask j).symm)
  rwa [BitVec.extractLsb'_and, BitVec.extractLsb'_and, hm, BitVec.and_allOnes, BitVec.and_allOnes] at e

theorem opcode_of_rowMatch (h : w &&& rowMask j = rowMatch j) : Field.opcode w = Field.opcode (encode j) :=
  extract_of_rowMatch h (rowMask_opcode j)

theorem funct3_of_rowMatch (h : w &&& rowMask j = rowMatch j) (hm : (rowMask j).extractLsb' 12 3 = BitVec.allOnes 3) :
    Field.funct3 w = Field.funct3 (encode j) := extract_of_rowMatch h hm

theorem funct7_of_rowMatch (h : w &&& rowMask j = rowMatch j) (hm : (rowMask j).extractLsb' 25 7 = BitVec.allOnes 7) :
    Field.funct7 w = Field.funct7 (encode j) := extract_of_rowMatch h hm

/-- Where the mask covers the whole word there is one word in the row. -/
theorem eq_encode_of_rowMatch (h : w &&& rowMask j = rowMatch j) (hm : rowMask j = BitVec.allOnes 32) :
    w = encode j := by
  have e := h.trans (encode_and_rowMask j).symm
  rwa [hm, BitVec.and_allOnes, BitVec.and_allOnes] at e

end

/-- `i` is an instruction of this hardware, and its row is that of `j`. -/
def sameRow (j i : Instr) : Bool :=
  !(rowGroup i).listedOnly && decide (rowMask i = rowMask j) && decide (rowMatch i = rowMatch j)

theorem sameRow_iff {j i : Instr} :
    sameRow j i = true ↔ (rowGroup i).listedOnly = false ∧ rowMask i = rowMask j ∧ rowMatch i = rowMatch j := by
  simp [sameRow, and_assoc]

/-- The rows of this hardware: the select bits, which are those of the row's own words, lead the decoder to the row. -/
theorem decodeRow_any_sameRow {w : Word} {j : Instr} (hj : (rowGroup j).listedOnly = false)
    (h : w &&& rowMask j = rowMatch j) : (decodeRow w).any (sameRow j) = true := by
  have hop := opcode_of_rowMatch h
  cases j
  case lui | auipc | jal =>
    simp [decodeRow, hop, encode, sameRow, rowMask, rowMatch, rowGroup, Group.listedOnly]
  case jalr =>
    have h3 := funct3_of_rowMatch h (by rw [rowMask]; decide)
    simp [decodeRow, hop, encode, decodeJalr, h3, sameRow, rowMask, rowMatch, rowGroup, Group.listedOnly]
  case beq | bne | blt | bge | bltu | bgeu =>
    have h3 := funct3_of_rowMatch h (by rw [rowMask]; decide)
    simp [decodeRow, hop, encode, decodeBranch, h3, sameRow, rowMask, rowMatch, rowGroup, Group.listedOnly]
  case lb | lh | lw | lbu | lhu =>
    have h3 := funct3_of_rowMatch h (by rw [rowMask]; decide)
    simp [decodeRow, hop, encode, decodeLoad, h3, sameRow, rowMask, rowMatch, rowGroup, Group.listedOnly]
  case sb | sh | sw =>
    have h3 := funct3_of_rowMatch h (by rw [rowMask]; decide)
    simp [decodeRow, hop, encode, decodeStore, h3, sameRow, rowMask, rowMatch, rowGroup, Group.listedOnly]
  case addi | slti | sltiu | xori | ori | andi =>
    have h3 := funct3_of_rowMatch h (by rw [rowMask]; decide)
    simp [decodeRow, hop, encode, decodeOpImm, h3, sameRow, rowMask, rowMatch, rowGroup, Group.listedOnly]
  case slli | srli | srai =>
    have h3 := funct3_of_rowMatch h (by rw [rowMask]; decide)
    have h7 := funct7_of_rowMatch h (by rw [rowMask]; decide)
    simp [decodeRow, hop, encode, decodeOpImm, h3, decodeShiftLeftImm, decodeShiftRightImm, h7, sameRow, rowMask, rowMatch,
      rowGroup, Group.listedOnly]
  case add | sub | sll | slt | sltu | xor | srl | sra | or | and | mul | mulh | mulhsu | mulhu | div | divu | rem | remu =>
    have h3 := funct3_of_rowMatch h (by rw [rowMask]; decide)
    have h7 := funct7_of_rowMatch h (by rw [rowMask]; decide)
    simp [decodeRow, hop, encode, decodeOp, h7, decodeOpBase, decodeOpAlt, decodeMulDiv, h3, sameRow, rowMask, rowMatch,
      rowGroup, Group.listedOnly]
  case fence =>
    have h3 := funct3_of_rowMatch h (by rw [rowMask]; decide)
    have hfm : Field.fm w = Field.fm _ := extract_of_rowMatch h (by rw [rowMask]; decide)
    have h1 : Field.rs1 w = Field.rs1 _ := extract_of_rowMatch h (by rw [rowMask]; decide)
    have hrd : Field.rd w = Field.rd _ := extract_of_rowMatch h (by rw [rowMask]; decide)
    simp [decodeRow, hop, encode, decodeMiscMem, h3, hfm, h1, hrd, sameRow, rowMask, rowMatch, rowGroup, Group.listedOnly]
  case fenceI | ecall | ebreak =>
    rw [eq_encode_of_rowMatch h (by decide), decodeRow_encode rfl]
    decide
  case csrrw | csrrs | csrrc | csrrwi | csrrsi | csrrci =>
    have h3 := funct3_of_rowMatch h (by rw [rowMask]; decide)
    simp [decodeRow, hop, encode, decodeSystem, h3, sameRow, rowMask, rowMatch, rowGroup, Group.listedOnly]
  all_goals cases hj

theorem decode_of_rowMatch {w : Word} {j : Instr} (hj : (rowGroup j).listedOnly = false)
    (h : w &&& rowMask j = rowMatch j) :
    ∃ i, decode w = .ok i ∧ (rowGroup i).listedOnly = false ∧ rowMask i = rowMask j ∧ rowMatch i = rowMatch j := by
  obtain ⟨i, hi, hrow⟩ := (Option.any_eq_true _ _).1 (decodeRow_any_sameRow hj h)
  exact ⟨i, decode_eq_ok.2 hi, sameRow_iff.1 hrow⟩

/-- A word that decodes matches the row of its instruction: it is the instruction's word. -/
theorem rowMatch_of_decode {w : Word} {i : Instr} (h : decode w = .ok i) : w &&& rowMask i = rowMatch i := by
  rw [← encode_of_decode h, encode_and_rowMask]

/-- Settles O4. At most one row matches since the decoder answers one instruction, and that of the row that matches. -/
theorem decodeFollowsOpcodeTable : Obligations.DecodeFollowsOpcodeTable := by
  intro w
  refine ⟨fun i => rowMatch_of_decode, fun j => decode_of_rowMatch, fun j k hj hk hwj hwk => ?_⟩
  obtain ⟨i, hi, -, hmask, hmatch⟩ := decode_of_rowMatch hj hwj
  obtain ⟨i', hi', -, hmask', hmatch'⟩ := decode_of_rowMatch hk hwk
  obtain rfl : i = i' := Except.ok.inj (hi.symm.trans hi')
  exact ⟨hmask.symm.trans hmask', hmatch.symm.trans hmatch'⟩

end Sys2Proof.Machine

namespace Sys2Proof

/-! ## The immediates, bit by bit

Bit `k` of a sign-extended immediate is a bit of one of the pieces that the decoder puts together, or bit 31 of the word
beyond its top; which one is read off for each of the 32 positions. -/

section
open Machine
variable (w : Word) {k : Nat} (hk : k < 32)
include hk

theorem getLsbD_sextImm_iImm : (sextImm (Field.iImm w)).getLsbD k = if k < 11 then w.getLsbD (k + 20) else w.getLsbD 31 := by
  simp only [sextImm, Field.iImm, BitVec.getLsbD_signExtend, BitVec.getLsbD_extractLsb', BitVec.msb_eq_getLsbD_last]
  interval_cases k <;> simp

theorem getLsbD_sextImm_sImm : (sextImm (Field.sImm w)).getLsbD k =
    if k < 5 then w.getLsbD (k + 7) else if k < 11 then w.getLsbD (k + 20) else w.getLsbD 31 := by
  simp only [sextImm, Field.sImm, BitVec.getLsbD_signExtend, BitVec.msb_eq_getLsbD_last, BitVec.getLsbD_or, getLsbD_place,
    BitVec.getLsbD_extractLsb']
  interval_cases k <;> simp

theorem getLsbD_signExtend_bImm : ((Field.bImm w).signExtend 32).getLsbD k =
    if k = 0 then false else if k < 5 then w.getLsbD (k + 7) else if k < 11 then w.getLsbD (k + 20)
      else if k = 11 then w.getLsbD 7 else w.getLsbD 31 := by
  simp only [Field.bImm, BitVec.getLsbD_signExtend, BitVec.msb_eq_getLsbD_last, BitVec.getLsbD_or, getLsbD_place,
    BitVec.getLsbD_extractLsb']
  interval_cases k <;> simp

theorem getLsbD_upperImm_uImm : (upperImm (Field.uImm w)).getLsbD k = if k < 12 then false else w.getLsbD k := by
  simp only [upperImm, Field.uImm, getLsbD_place, BitVec.getLsbD_extractLsb']
  interval_cases k <;> simp

theorem getLsbD_signExtend_jImm : ((Field.jImm w).signExtend 32).getLsbD k =
    if k = 0 then false else if k < 11 then w.getLsbD (k + 20) else if k = 11 then w.getLsbD 20
      else if k < 20 then w.getLsbD k else w.getLsbD 31 := by
  simp only [Field.jImm, BitVec.getLsbD_signExtend, BitVec.msb_eq_getLsbD_last, BitVec.getLsbD_or, getLsbD_place,
    BitVec.getLsbD_extractLsb']
  interval_cases k <;> simp

end

/-- Settles O6, one format at a time. -/
theorem immediatesAreAssembled : Obligations.ImmediatesAreAssembled := by
  intro w k hk
  exact ⟨getLsbD_sextImm_iImm w hk, getLsbD_sextImm_sImm w hk, getLsbD_signExtend_bImm w hk, getLsbD_upperImm_uImm w hk,
    getLsbD_signExtend_jImm w hk⟩

end Sys2Proof

namespace Sys2Proof.Machine

/-! ## The words outside the table (R100) -/

/-- An instruction of this hardware. -/
def inHardware (i : Instr) : Bool := !(rowGroup i).listedOnly

theorem inHardware_iff {i : Instr} : inHardware i = true ↔ (rowGroup i).listedOnly = false := by simp [inHardware]

/-- The eleven major opcodes with rows of this hardware (R98). -/
def hardwareOpcodes : List (BitVec 7) :=
  [0b0110111#7, 0b0010111#7, 0b1101111#7, 0b1100111#7, 0b1100011#7, 0b0000011#7, 0b0100011#7, 0b0010011#7, 0b0110011#7,
    0b0001111#7, 0b1110011#7]

/-- (a), (b) and (c) of the list are the other major opcodes. -/
theorem mem_hardwareOpcodes_iff : ∀ op : BitVec 7, op ∈ hardwareOpcodes ↔
    ¬ (op.extractLsb' 0 2 ≠ 0b11#2 ∨ op.extractLsb' 2 3 = 0b111#3 ∨
      op ∈ [0b0000111#7, 0b0100111#7, 0b0101111#7, 0b0011011#7, 0b0111011#7, 0b1000011#7, 0b1000111#7,
        0b1001011#7, 0b1001111#7, 0b1010011#7, 0b0001011#7, 0b0101011#7, 0b1011011#7, 0b1111011#7, 0b1010111#7,
        0b1101011#7, 0b1110111#7]) := by
  decide

theorem extract_opcode (w : Word) {lo n : Nat} (h : lo + n ≤ 7) :
    (Field.opcode w).extractLsb' lo n = w.extractLsb' lo n := by
  refine BitVec.eq_of_getLsbD_eq fun i hi => ?_
  have : lo + i < 7 := by omega
  simp [Field.opcode, hi, this]

/-- No row of this hardware has another major opcode (R98, R99). -/
theorem opcode_encode_mem {i : Instr} (h : (rowGroup i).listedOnly = false) :
    Field.opcode (encode i) ∈ hardwareOpcodes := by
  cases i
  case lui | auipc | jal | jalr | beq | bne | blt | bge | bltu | bgeu | lb | lh | lw | lbu | lhu | sb | sh | sw | addi |
      slti | sltiu | xori | ori | andi | slli | srli | srai | add | sub | sll | slt | sltu | xor | srl | sra | or | and |
      fence | fenceI | ecall | ebreak | csrrw | csrrs | csrrc | csrrwi | csrrsi | csrrci | mul | mulh | mulhsu | mulhu |
      div | divu | rem | remu => simp [encode, hardwareOpcodes]
  all_goals cases h

theorem funct3_cases : ∀ f : BitVec 3, f = 0b000#3 ∨ f = 0b001#3 ∨ f = 0b010#3 ∨ f = 0b011#3 ∨ f = 0b100#3 ∨
    f = 0b101#3 ∨ f = 0b110#3 ∨ f = 0b111#3 := by decide

section
variable (w : Word)

theorem decodeJalr_any_inHardware : (decodeJalr w).any inHardware = true ↔ Field.funct3 w = 0b000#3 := by
  unfold decodeJalr
  split
  next h => simp [h, inHardware, rowGroup, Group.listedOnly]
  next h => simpa using h

theorem decodeBranch_any_inHardware :
    (decodeBranch w).any inHardware = true ↔ Field.funct3 w ∉ [0b010#3, 0b011#3] := by
  rcases funct3_cases (Field.funct3 w) with h | h | h | h | h | h | h | h <;>
    simp [decodeBranch, h, inHardware, rowGroup, Group.listedOnly]

theorem decodeLoad_any_inHardware :
    (decodeLoad w).any inHardware = true ↔ Field.funct3 w ∉ [0b011#3, 0b110#3, 0b111#3] := by
  rcases funct3_cases (Field.funct3 w) with h | h | h | h | h | h | h | h <;>
    simp [decodeLoad, h, inHardware, rowGroup, Group.listedOnly]

theorem decodeStore_any_inHardware : (decodeStore w).any inHardware = true ↔
    Field.funct3 w ∉ [0b011#3, 0b100#3, 0b101#3, 0b110#3, 0b111#3] := by
  rcases funct3_cases (Field.funct3 w) with h | h | h | h | h | h | h | h <;>
    simp [decodeStore, h, inHardware, rowGroup, Group.listedOnly]

theorem decodeShiftLeftImm_any_inHardware :
    (decodeShiftLeftImm w).any inHardware = true ↔ Field.funct7 w = 0b0000000#7 := by
  unfold decodeShiftLeftImm
  split <;> simp_all [inHardware, rowGroup, Group.listedOnly]

theorem decodeShiftRightImm_any_inHardware : (decodeShiftRightImm w).any inHardware = true ↔
    Field.funct7 w = 0b0000000#7 ∨ Field.funct7 w = 0b0100000#7 := by
  unfold decodeShiftRightImm
  split <;> simp_all [inHardware, rowGroup, Group.listedOnly]

/-- funct3 001 and 101 hold the shifts, which inst[31:25] selects among; the other six rows are whole. -/
theorem decodeOpImm_any_inHardware : (decodeOpImm w).any inHardware = true ↔
    ¬ ((Field.funct3 w = 0b001#3 ∧ Field.funct7 w ≠ 0b0000000#7) ∨
      (Field.funct3 w = 0b101#3 ∧ Field.funct7 w ≠ 0b0000000#7 ∧ Field.funct7 w ≠ 0b0100000#7)) := by
  rcases funct3_cases (Field.funct3 w) with h | h | h | h | h | h | h | h
  case inr.inl => simp [decodeOpImm, h, decodeShiftLeftImm_any_inHardware]
  case inr.inr.inr.inr.inr.inl => simp [decodeOpImm, h, decodeShiftRightImm_any_inHardware, or_iff_not_imp_left]
  all_goals simp [decodeOpImm, h, inHardware, rowGroup, Group.listedOnly]

theorem decodeOpBase_any_inHardware : (decodeOpBase w).any inHardware = true := by
  rcases funct3_cases (Field.funct3 w) with h | h | h | h | h | h | h | h <;>
    simp [decodeOpBase, h, inHardware, rowGroup, Group.listedOnly]

theorem decodeMulDiv_any_inHardware : (decodeMulDiv w).any inHardware = true := by
  rcases funct3_cases (Field.funct3 w) with h | h | h | h | h | h | h | h <;>
    simp [decodeMulDiv, h, inHardware, rowGroup, Group.listedOnly]

theorem decodeOpAlt_any_inHardware :
    (decodeOpAlt w).any inHardware = true ↔ Field.funct3 w = 0b000#3 ∨ Field.funct3 w = 0b101#3 := by
  rcases funct3_cases (Field.funct3 w) with h | h | h | h | h | h | h | h <;>
    simp [decodeOpAlt, h, inHardware, rowGroup, Group.listedOnly]

theorem decodeOp_any_inHardware : (decodeOp w).any inHardware = true ↔
    ¬ (Field.funct7 w ∉ [0b0000000#7, 0b0100000#7, 0b0000001#7] ∨
      (Field.funct7 w = 0b0100000#7 ∧ Field.funct3 w ≠ 0b000#3 ∧ Field.funct3 w ≠ 0b101#3)) := by
  unfold decodeOp
  split
  next h => simp [h, decodeOpBase_any_inHardware]
  next h => simp [h, decodeOpAlt_any_inHardware, or_iff_not_imp_left]
  next h => simp [h, decodeMulDiv_any_inHardware]
  next hbase halt hmul => simpa using fun hmem => (hmul (hmem hbase halt)).elim

theorem decodeMiscMem_any_inHardware : (decodeMiscMem w).any inHardware = true ↔
    ¬ (Field.funct3 w ∈ [0b010#3, 0b011#3, 0b100#3, 0b101#3, 0b110#3, 0b111#3] ∨
      (Field.funct3 w = 0b000#3 ∧ (w.extractLsb' 28 4 ≠ 0#4 ∨ Field.rs1 w ≠ 0#5 ∨ Field.rd w ≠ 0#5)) ∨
      (Field.funct3 w = 0b001#3 ∧ (w.extractLsb' 20 12 ≠ 0#12 ∨ Field.rs1 w ≠ 0#5 ∨ Field.rd w ≠ 0#5))) := by
  change _ ↔ ¬ (_ ∨ (_ ∧ (Field.fm w ≠ 0#4 ∨ _)) ∨ (_ ∧ (Field.iImm w ≠ 0#12 ∨ _)))
  rcases funct3_cases (Field.funct3 w) with h | h | h | h | h | h | h | h <;>
    simp [decodeMiscMem, h, apply_ite (Option.any inHardware), inHardware, rowGroup, Group.listedOnly]

variable {w}

/-- ECALL and EBREAK have one word each (R97, R233). -/
theorem decodePriv_any_inHardware (hop : Field.opcode w = 0b1110011#7) (h3 : Field.funct3 w = 0b000#3) :
    (decodePriv w).any inHardware = true ↔ w = 0x00000073#32 ∨ w = 0x00100073#32 := by
  constructor
  · intro h
    obtain ⟨i, hi, -⟩ := (Option.any_eq_true _ _).1 h
    have hword := encode_of_decodePriv hop h3 hi
    unfold decodePriv at hi
    repeat' split at hi
    all_goals cases hi
    · exact .inl (hword.symm.trans (by decide))
    · exact .inr (hword.symm.trans (by decide))
  · rintro (rfl | rfl) <;> decide

theorem decodeSystem_any_inHardware (hop : Field.opcode w = 0b1110011#7) : (decodeSystem w).any inHardware = true ↔
    ¬ (Field.funct3 w = 0b100#3 ∨ (Field.funct3 w = 0b000#3 ∧ w ≠ 0x00000073#32 ∧ w ≠ 0x00100073#32)) := by
  rcases funct3_cases (Field.funct3 w) with h | h | h | h | h | h | h | h
  case inl => simp [decodeSystem, h, decodePriv_any_inHardware hop h, or_iff_not_imp_left]
  all_goals simp [decodeSystem, h, inHardware, rowGroup, Group.listedOnly]

end

theorem exists_decode_iff (w : Word) :
    (∃ i, decode w = .ok i ∧ (rowGroup i).listedOnly = false) ↔ (decodeRow w).any inHardware = true := by
  simp [Option.any_eq_true, decode_eq_ok, inHardware_iff]

/-- A word of another major opcode decodes to a listed-only instruction or to none: it would be the word of what it
decodes to. -/
theorem opcode_mem_of_decode {w : Word} {i : Instr} (h : decode w = .ok i) (hi : (rowGroup i).listedOnly = false) :
    Field.opcode w ∈ hardwareOpcodes := by
  rw [← encode_of_decode h]
  exact opcode_encode_mem hi

/-- Settles O7. Outside the eleven major opcodes (a) to (c) hold of the word and no instruction of this hardware has it;
inside them each opcode's own item of (d) to (k) is what its decoder refuses. -/
theorem unlistedWordsAreExactlyTheList : Obligations.UnlistedWordsAreExactlyTheList := by
  intro w
  by_cases hmem : Field.opcode w ∈ hardwareOpcodes
  · have habc := (mem_hardwareOpcodes_iff _).1 hmem
    rw [extract_opcode w (by decide), extract_opcode w (by decide), not_or, not_or] at habc
    obtain ⟨ha, hb, hc⟩ := habc
    rw [exists_decode_iff, or_iff_right ha, or_iff_right hb, or_iff_right hc]
    simp only [hardwareOpcodes, List.mem_cons, List.not_mem_nil, or_false] at hmem
    rcases hmem with hlui | hauipc | hjal | hjalr | hbranch | hload | hstore | hopImm | hop | hmiscMem | hsystem
    · simp [decodeRow, hlui, inHardware, rowGroup, Group.listedOnly]
    · simp [decodeRow, hauipc, inHardware, rowGroup, Group.listedOnly]
    · simp [decodeRow, hjal, inHardware, rowGroup, Group.listedOnly]
    · simpa [decodeRow, hjalr] using decodeJalr_any_inHardware w
    · simpa [decodeRow, hbranch] using decodeBranch_any_inHardware w
    · simpa [decodeRow, hload] using decodeLoad_any_inHardware w
    · simpa [decodeRow, hstore] using decodeStore_any_inHardware w
    · simpa [decodeRow, hopImm] using decodeOpImm_any_inHardware w
    · simpa [decodeRow, hop] using decodeOp_any_inHardware w
    · simpa [decodeRow, hmiscMem] using decodeMiscMem_any_inHardware w
    · simpa [decodeRow, hsystem] using decodeSystem_any_inHardware hsystem
  · refine iff_of_false (fun ⟨i, h, hi⟩ => hmem (opcode_mem_of_decode h hi)) fun hnot => hmem ?_
    rw [mem_hardwareOpcodes_iff, extract_opcode w (by decide), extract_opcode w (by decide)]
    exact fun habc => hnot (by tauto)

/-! ## NOP, and the integer and M instructions whose destination is x0 (R104, R142) -/

section
variable {i : Instr} (h : rowGroup i = .integer ∨ rowGroup i = .mulDiv)
include h

/-- Every integer and M row names its destination in inst[11:7] (R82). -/
theorem dest_eq_rd_of_integer_or_mulDiv : i.dest = Field.rd (encode i) := by
  cases i
  case lui | auipc | addi | slti | sltiu | xori | ori | andi | slli | srli | srai | add | sub | sll | slt | sltu | xor |
      srl | sra | or | and | mul | mulh | mulhsu | mulhu | div | divu | rem | remu => simp [Instr.dest, encode]
  all_goals simp [rowGroup] at h

/-- The integer and M rows compute a result for rd and do nothing else (R120, R240). -/
theorem exists_exec_eq_retireWith (s : State) : ∃ v, exec i s = retireWith i.dest v s := by
  cases i
  case lui | auipc | addi | slti | sltiu | xori | ori | andi | slli | srli | srai | add | sub | sll | slt | sltu | xor |
      srl | sra | or | and | mul | mulh | mulhsu | mulhu | div | divu | rem | remu => exact ⟨_, rfl⟩
  all_goals simp [rowGroup] at h

/-- A result for x0 is discarded (R20), and the instruction only advances. -/
theorem onlyAdvances_of_rd_eq_zero (hrd : Field.rd (encode i) = 0#5) (s : State) :
    ∃ t, exec i s = .next t ∧ OnlyAdvances s t (s.pc + 4#32) := by
  obtain ⟨v, hexec⟩ := exists_exec_eq_retireWith h s
  rw [dest_eq_rd_of_integer_or_mulDiv h, hrd, retireWith_eq, State.writeReg_zero] at hexec
  exact ⟨s.retire, hexec, onlyAdvances_retire s⟩

end

theorem encode_nop : encode (.addi 0#5 0#5 0#12) = 0x00000013#32 := by decide

theorem rd_encode_nop : Field.rd (encode (.addi 0#5 0#5 0#12)) = 0#5 := Field.rd_iType ..

/-- Settles O15. NOP's word is decoded by the round trip, and NOP is one of the integer rows with rd = x0. -/
theorem canonicalNopOnlyAdvances : Obligations.CanonicalNopOnlyAdvances := by
  refine ⟨?_, encode_nop, onlyAdvances_of_rd_eq_zero (.inl rfl) rd_encode_nop, fun i s h hrd =>
    onlyAdvances_of_rd_eq_zero h hrd s⟩
  rw [← encode_nop]
  exact decode_eq_ok.2 (decodeRow_encode rfl)

end Sys2Proof.Machine

/-! The integer computational instructions (40_integer_computational.md): the value each writes in rd as arithmetic on what the
sources held, its words, and that none of them raises. -/

namespace Sys2Proof

/-! ## Words written as the tables print them -/

/-- A word that the encoder writes for a well-formed instruction is decoded to it. -/
theorem decode_of_eq_encode {w : Word} {i : Instr} (hwf : i.wf = true) (h : w = encode i) : decode w = .ok i := by
  rw [h]
  exact decodeOfEncodeIsIdentity i hwf

section
variable {rd rs1 rs2 : RegId} {f3 : BitVec 3} {op : BitVec 7} {i : Instr}

theorem decode_append_rType {f7 : BitVec 7} (hwf : i.wf = true) (h : encode i = rType f7 rs2 rs1 f3 rd op) :
    decode (f7 ++ rs2 ++ rs1 ++ f3 ++ rd ++ op) = .ok i :=
  decode_of_eq_encode hwf ((append_eq_rType f7 rs2 rs1 f3 rd op).trans h.symm)

theorem decode_append_iType {imm : BitVec 12} (hwf : i.wf = true) (h : encode i = iType imm rs1 f3 rd op) :
    decode (imm ++ rs1 ++ f3 ++ rd ++ op) = .ok i :=
  decode_of_eq_encode hwf ((append_eq_iType imm rs1 f3 rd op).trans h.symm)

theorem decode_append_uType {imm : BitVec 20} (hwf : i.wf = true) (h : encode i = uType imm rd op) :
    decode (imm ++ rd ++ op) = .ok i :=
  decode_of_eq_encode hwf ((append_eq_uType imm rd op).trans h.symm)

end

/-- Settles O5: each word printed is the encoder's word of the instruction printed, and all nine are well-formed. -/
theorem wordsOfTheSpecDecode : Obligations.WordsOfTheSpecDecode := by
  refine ⟨?_, ?_, ?_, ?_, ?_, ?_, ?_, ?_, ?_⟩
  all_goals exact decode_of_eq_encode rfl (by decide)

end Sys2Proof

namespace Sys2Proof.Machine

/-! ## Results as arithmetic (R7, R89, R92, R94, R143) -/

theorem toInt_sextImm (imm : BitVec 12) : (sextImm imm).toInt = imm.toInt :=
  BitVec.toInt_signExtend_of_le (by decide)

theorem add_eq_ofInt (a b : Word) : a + b = BitVec.ofInt 32 (a.toInt + b.toInt) := by
  rw [BitVec.ofInt_add, BitVec.ofInt_toInt, BitVec.ofInt_toInt]

theorem sub_eq_ofInt (a b : Word) : a - b = BitVec.ofInt 32 (a.toInt - b.toInt) := by
  apply BitVec.eq_of_toInt_eq
  rw [BitVec.toInt_sub, BitVec.toInt_ofInt]

theorem add_sextImm (a : Word) (imm : BitVec 12) : a + sextImm imm = BitVec.ofInt 32 (a.toInt + imm.toInt) := by
  rw [add_eq_ofInt, toInt_sextImm]

theorem boolWord_lessSigned (a b : Word) : boolWord (lessSigned a b) = if a.toInt < b.toInt then 1#32 else 0#32 := by
  simp [boolWord, lessSigned]

theorem boolWord_lessUnsigned (a b : Word) : boolWord (lessUnsigned a b) = if a.toNat < b.toNat then 1#32 else 0#32 := by
  simp [boolWord, lessUnsigned]

theorem boolWord_lessSigned_sextImm (a : Word) (imm : BitVec 12) :
    boolWord (lessSigned a (sextImm imm)) = if a.toInt < imm.toInt then 1#32 else 0#32 := by
  rw [boolWord_lessSigned, toInt_sextImm]

theorem shiftLeft_eq_ofNat (v : Word) (k : BitVec 5) : shiftLeft v k = BitVec.ofNat 32 (v.toNat * 2 ^ k.toNat) := by
  apply BitVec.eq_of_toNat_eq
  rw [shiftLeft, BitVec.toNat_shiftLeft, Nat.shiftLeft_eq, BitVec.toNat_ofNat]

theorem shiftRightLogical_eq_ofNat (v : Word) (k : BitVec 5) :
    shiftRightLogical v k = BitVec.ofNat 32 (v.toNat / 2 ^ k.toNat) := by
  rw [← Nat.shiftRight_eq_div_pow, ← BitVec.toNat_ushiftRight, BitVec.ofNat_toNat, BitVec.setWidth_eq, shiftRightLogical]

/-- The arithmetic shift rounds towards minus infinity, as `/` on the integers does for a positive divisor. -/
theorem shiftRightArith_eq_ofInt (v : Word) (k : BitVec 5) :
    shiftRightArith v k = BitVec.ofInt 32 (v.toInt / 2 ^ k.toNat) := by
  rw [shiftRightArith, BitVec.sshiftRight, Int.shiftRight_eq_div_pow]
  norm_cast

theorem toNat_shiftAmount (v : Word) : (shiftAmount v).toNat = v.toNat % 32 := by simp [shiftAmount]

theorem upperImm_eq_append (imm : BitVec 20) : upperImm imm = imm ++ 0#12 := by
  refine BitVec.eq_of_getLsbD_eq fun k hk => ?_
  simp only [upperImm, getLsbD_place, BitVec.getLsbD_append]
  by_cases h : k < 12
  · simp [h]
  · simp [h, hk, Nat.not_lt.1 h]

theorem toNat_upperImm (imm : BitVec 20) : (upperImm imm).toNat = imm.toNat * 4096 := by
  rw [upperImm_eq_append, BitVec.toNat_append, Nat.shiftLeft_eq]
  simp

theorem add_upperImm (pc : Word) (imm : BitVec 20) :
    pc + upperImm imm = BitVec.ofNat 32 (pc.toNat + imm.toNat * 4096) := by
  apply BitVec.eq_of_toNat_eq
  rw [BitVec.toNat_add, toNat_upperImm, BitVec.toNat_ofNat]

/-- An instruction that writes `v` in rd yields every value equal to `v`. -/
theorem yields_of_eq {i : Instr} {s : State} {rd : RegId} {v v' : Word} (h : exec i s = retireWith rd v s) (hv : v = v') :
    Yields i s rd v' := by
  subst hv
  exact yields_of_retireWith h

/-! ## Words that are no row of this hardware -/

/-- The listed-only rows have no meaning here but the exception (R270). -/
theorem exec_of_listedOnly {i : Instr} (h : (rowGroup i).listedOnly = true) (s : State) : exec i s = illegal i s := by
  cases i
  case lui | auipc | jal | jalr | beq | bne | blt | bge | bltu | bgeu | lb | lh | lw | lbu | lhu | sb | sh | sw | addi |
      slti | sltiu | xori | ori | andi | slli | srli | srai | add | sub | sll | slt | sltu | xor | srl | sra | or | and |
      fence | fenceI | ecall | ebreak | csrrw | csrrs | csrrc | csrrwi | csrrsi | csrrci | mul | mulh | mulhsu | mulhu |
      div | divu | rem | remu => cases h
  all_goals rfl

/-- A word that is no instruction of this hardware raises with the word, whether it is no row at all or a listed-only one
(R100). -/
theorem runWord_illegal {w : Word} (h : ¬ ∃ i, decode w = .ok i ∧ (rowGroup i).listedOnly = false) (s : State) :
    runWord s w = .fault (.illegalInstruction s.pc w) := by
  unfold runWord
  split
  next i hi =>
    have hlisted : (rowGroup i).listedOnly = true := Bool.eq_true_of_not_eq_false fun hf => h ⟨i, hi, hf⟩
    rw [exec_of_listedOnly hlisted, illegal_eq, encode_of_decode hi]
  next => rfl

/-- Of the OP-IMM words with funct3 001 and 101 only those with the printed inst[31:25] are rows (R94, R100 (i)). -/
theorem step_illegal_of_shiftImm {s : State} {f7 : BitVec 7} {shamt : BitVec 5} {rs1 rd : RegId} {f3 : BitVec 3}
    (hs : s.FetchReady) (hw : s.fetchedWord = f7 ++ shamt ++ rs1 ++ f3 ++ rd ++ 0b0010011#7)
    (hbad : (f3 = 0b001#3 ∧ f7 ≠ 0b0000000#7) ∨ (f3 = 0b101#3 ∧ f7 ≠ 0b0000000#7 ∧ f7 ≠ 0b0100000#7)) :
    step s = .fault (.illegalInstruction s.pc s.fetchedWord) := by
  rw [step_of_ready hs]
  refine runWord_illegal ?_ s
  rw [hw, append_eq_rType, exists_decode_iff, decodeRow, Field.opcode_rType]
  refine mt (decodeOpImm_any_inHardware _).1 (not_not_intro ?_)
  rwa [Field.funct3_rType, Field.funct7_rType]

/-! ## The statements -/

/-- Settles O8: each is its result in rd, and the immediate is sign-extended. -/
theorem addAndCompareImmediate : Obligations.AddAndCompareImmediate := by
  intro rd rs1 imm s
  refine ⟨?_, yields_of_eq rfl (add_sextImm _ imm), ?_, yields_of_eq rfl (boolWord_lessSigned_sextImm _ imm), ?_,
    yields_of_eq rfl (boolWord_lessUnsigned _ _)⟩
  all_goals exact decode_append_iType rfl rfl

/-- Settles O9: the meanings are the bitwise operations themselves, on the sign-extended immediate. -/
theorem logicImmediate : Obligations.LogicImmediate := by
  intro rd rs1 imm s
  refine ⟨?_, yields_of_retireWith rfl, ?_, yields_of_retireWith rfl, ?_, yields_of_retireWith rfl⟩
  all_goals exact decode_append_iType rfl rfl

/-- Settles O10: the shifts are multiplication and division by a power of two, and the other values of inst[31:25] are no
row of this hardware. -/
theorem shiftImmediate : Obligations.ShiftImmediate := by
  intro rd rs1 shamt s
  refine ⟨?_, yields_of_eq rfl (shiftLeft_eq_ofNat _ shamt), ?_, yields_of_eq rfl (shiftRightLogical_eq_ofNat _ shamt), ?_,
    yields_of_eq rfl (shiftRightArith_eq_ofInt _ shamt), fun f7 hs =>
    ⟨fun h0 hw => step_illegal_of_shiftImm hs hw (.inl ⟨rfl, h0⟩),
      fun h0 h32 hw => step_illegal_of_shiftImm hs hw (.inr ⟨rfl, h0, h32⟩)⟩⟩
  all_goals exact decode_append_rType rfl rfl

/-- Settles O11: the U-immediate is the 20 bits followed by twelve zeros, that is, times 4096. -/
theorem upperImmediate : Obligations.UpperImmediate := by
  intro rd imm s
  exact ⟨decode_append_uType rfl rfl, yields_of_eq rfl (upperImm_eq_append imm),
    decode_append_uType rfl rfl, yields_of_eq rfl (add_upperImm s.pc imm)⟩

/-- Settles O12: the value is made of the sources as they were, whatever rd is. -/
theorem addSubtractCompare : Obligations.AddSubtractCompare := by
  intro rd rs1 rs2 s
  refine ⟨?_, yields_of_eq rfl (add_eq_ofInt _ _), ?_, yields_of_eq rfl (sub_eq_ofInt _ _), ?_,
    yields_of_eq rfl (boolWord_lessSigned _ _), ?_, yields_of_eq rfl (boolWord_lessUnsigned _ _)⟩
  all_goals exact decode_append_rType rfl rfl

/-- Settles O13: the meanings are the bitwise operations themselves, on the sources as they were. -/
theorem logicRegister : Obligations.LogicRegister := by
  intro rd rs1 rs2 s
  refine ⟨?_, yields_of_retireWith rfl, ?_, yields_of_retireWith rfl, ?_, yields_of_retireWith rfl⟩
  all_goals exact decode_append_rType rfl rfl

/-- Settles O14: the shifts of O10 at the amount that the low 5 bits of x[rs2] give. -/
theorem shiftRegister : Obligations.ShiftRegister := by
  intro rd rs1 rs2 s
  rw [← toNat_shiftAmount]
  refine ⟨?_, yields_of_eq rfl (shiftLeft_eq_ofNat _ _), ?_, yields_of_eq rfl (shiftRightLogical_eq_ofNat _ _), ?_,
    yields_of_eq rfl (shiftRightArith_eq_ofInt _ _)⟩
  all_goals exact decode_append_rType rfl rfl

/-- Settles O50: each is a result for rd and the ordinary end of the step. -/
theorem integerInstructionsNeverRaise : Obligations.IntegerInstructionsNeverRaise := by
  intro i s h
  obtain ⟨v, hexec⟩ := exists_exec_eq_retireWith h s
  exact ⟨(s.writeReg i.dest v).retire, hexec, rfl, rfl, rfl, rfl, rfl, rfl⟩

end Sys2Proof.Machine

/-! The control transfer instructions (41_control_transfer.md): their words, the target as arithmetic on the pc or x[rs1] and
the offset, what a jump does at an aligned target and at a misaligned one, and the conditions of the branches. -/

namespace Sys2Proof

/-! ## Words of the B- and J-type as the tables print them -/

section
variable {i : Instr} {op : BitVec 7}

theorem decode_append_jType {off : BitVec 21} {rd : RegId} (hwf : i.wf = true) (h : encode i = jType off rd op) :
    decode (off.extractLsb' 20 1 ++ off.extractLsb' 1 10 ++ off.extractLsb' 11 1 ++ off.extractLsb' 12 8 ++ rd ++ op) =
      .ok i :=
  decode_of_eq_encode hwf ((append_eq_jType off rd op).trans h.symm)

theorem decode_append_bType {off : BitVec 13} {rs1 rs2 : RegId} {f3 : BitVec 3} (hwf : i.wf = true)
    (h : encode i = bType off rs2 rs1 f3 op) :
    decode (off.extractLsb' 12 1 ++ off.extractLsb' 5 6 ++ rs2 ++ rs1 ++ f3 ++ off.extractLsb' 1 4 ++
      off.extractLsb' 11 1 ++ op) = .ok i :=
  decode_of_eq_encode hwf ((append_eq_bType off rs2 rs1 f3 op).trans h.symm)

end

end Sys2Proof

namespace Sys2Proof.Machine

/-! ## Targets as arithmetic (R91, R93, R151 to R153) -/

theorem add_signExtend_eq_ofInt {n : Nat} (hn : n ≤ 32) (a : Word) (off : BitVec n) :
    a + off.signExtend 32 = BitVec.ofInt 32 (a.toInt + off.toInt) := by
  rw [add_eq_ofInt, BitVec.toInt_signExtend_of_le hn]

theorem jalTarget_eq_ofInt (s : State) (off : BitVec 21) :
    jalTarget s off = BitVec.ofInt 32 (s.pc.toInt + off.toInt) := add_signExtend_eq_ofInt (by decide) s.pc off

theorem jalrTarget_eq_ofInt (s : State) (rs1 : RegId) (imm : BitVec 12) :
    jalrTarget s rs1 imm = BitVec.ofInt 32 ((s.reg rs1).toInt + imm.toInt) &&& 0xFFFFFFFE#32 := by
  rw [jalrTarget, add_sextImm]

theorem branchTarget_eq_ofInt (s : State) (off : BitVec 13) :
    branchTarget s off = BitVec.ofInt 32 (s.pc.toInt + off.toInt) := add_signExtend_eq_ofInt (by decide) s.pc off

/-! ## Comparisons as propositions (R7, R153 to R158) -/

section
variable {a b : Word}

theorem equalWords_iff : equalWords a b = true ↔ a = b := decide_eq_true_iff

theorem not_equalWords_iff : (!equalWords a b) = true ↔ a ≠ b := by simp [equalWords]

theorem lessSigned_iff : lessSigned a b = true ↔ a.toInt < b.toInt := decide_eq_true_iff

theorem not_lessSigned_iff : (!lessSigned a b) = true ↔ a.toInt ≥ b.toInt := by simp [lessSigned]

theorem lessUnsigned_iff : lessUnsigned a b = true ↔ a.toNat < b.toNat := decide_eq_true_iff

theorem not_lessUnsigned_iff : (!lessUnsigned a b) = true ↔ a.toNat ≥ b.toNat := by simp [lessUnsigned]

end

/-! ## Jumps and branches -/

/-- A meaning that is a jump links and goes to an aligned target, and raises at one that is not, `rd` unwritten (R151, R152,
R159, D25). -/
theorem jumps_of_jumpAndLink {i : Instr} {s : State} {rd : RegId} {target : Word}
    (h : exec i s = jumpAndLink rd target s) :
    (Aligned target → ∃ t, exec i s = .next t ∧ WritesReg s t rd (s.pc + 4#32) target) ∧
    (¬ Aligned target → exec i s = .fault (.instructionAddressMisaligned s.pc target)) := by
  refine ⟨fun ha => ?_, fun ha => ?_⟩
  · exact ⟨_, h.trans (jumpAndLink_next.2 ⟨misaligned_eq_false_iff.2 ha, rfl⟩), writesReg_retireTo s rd _ target⟩
  · exact h.trans (jumpAndLink_fault.2 ⟨misaligned_iff.2 ha, rfl⟩)

/-- The six branches have one target; the condition tells them apart. -/
theorem branches_of_taken {i : Instr} {s : State} {off : BitVec 13} {taken : Bool} {c : Prop} (hc : taken = true ↔ c)
    (h : exec i s = branchIf taken (branchTarget s off) s) :
    Branches i s c (BitVec.ofInt 32 (s.pc.toInt + off.toInt)) := by
  rw [← branchTarget_eq_ofInt]
  exact branches_of_branchIf hc h

/-! ## The statements: O20 stands outside this namespace, where `jumpAndLink` is the model's operation -/

/-- Settles O21: each branch is its comparison, and the words differ in funct3 only. -/
theorem conditionalBranches : Obligations.ConditionalBranches := by
  intro rs1 rs2 off s
  refine ⟨?beq, branches_of_taken equalWords_iff rfl, ?bne, branches_of_taken not_equalWords_iff rfl,
    ?blt, branches_of_taken lessSigned_iff rfl, ?bge, branches_of_taken not_lessSigned_iff rfl,
    ?bltu, branches_of_taken lessUnsigned_iff rfl, ?bgeu, branches_of_taken not_lessUnsigned_iff rfl⟩
  all_goals
    intro heven
    exact decode_append_bType (branchOffsetOk_iff.2 heven) rfl

end Sys2Proof.Machine

namespace Sys2Proof

open Machine in
/-- Settles O20: the target is made of the pc or x[rs1] of the state before, whatever rd is. -/
theorem jumpAndLink : Obligations.JumpAndLink := by
  intro rd rs1 off imm s target
  refine ⟨fun heven => decode_append_jType (jumpOffsetOk_iff.2 heven) rfl, fun htarget => ?_,
    decode_append_iType rfl rfl, fun htarget => ?_⟩
  · rw [htarget, ← jalTarget_eq_ofInt]
    exact jumps_of_jumpAndLink rfl
  · rw [htarget, ← jalrTarget_eq_ofInt]
    exact jumps_of_jumpAndLink rfl

end Sys2Proof

/-! The loads and stores (42_load_store.md): their words, the effective address as arithmetic on x[rs1] and the offset, and the
value of a load as the bytes that it reads. -/

namespace Sys2Proof

/-! ## Words of the S-type as the tables print them -/

theorem decode_append_sType {i : Instr} {imm : BitVec 12} {rs1 rs2 : RegId} {f3 : BitVec 3} {op : BitVec 7}
    (hwf : i.wf = true) (h : encode i = sType imm rs2 rs1 f3 op) :
    decode (imm.extractLsb' 5 7 ++ rs2 ++ rs1 ++ f3 ++ imm.extractLsb' 0 5 ++ op) = .ok i :=
  decode_of_eq_encode hwf ((append_eq_sType imm rs2 rs1 f3 op).trans h.symm)

end Sys2Proof

namespace Sys2Proof.Machine

/-! ## The effective address and the value loaded (R51, R170) -/

theorem effectiveAddr_eq_ofInt (s : State) (rs1 : RegId) (imm : BitVec 12) :
    effectiveAddr s rs1 imm = BitVec.ofInt 32 ((s.reg rs1).toInt + imm.toInt) := add_sextImm (s.reg rs1) imm

/-- A load of `n` bytes at `ea` gives the extension of what the `n` bytes there spell. -/
theorem loads_extended {i : Instr} {s : State} {rd : RegId} {ea : Word} {n : Nat} {bytes : BitVec (8 * n)}
    (extend : BitVec (8 * n) → Word) (hbytes : s.mem.readValue ea n = bytes)
    (h : exec i s = loadInto rd ea n (extend (s.mem.readValue ea n)) s) : Loads i s rd ea n (extend bytes) := by
  subst hbytes
  exact loads_of_loadInto h

/-- LW reads as many bits as rd holds, so that nothing is left to extend (R173). -/
theorem loads_word {i : Instr} {s : State} {rd : RegId} {ea : Word}
    (h : exec i s = loadInto rd ea 4 ((s.mem.readValue ea 4).setWidth 32) s) :
    Loads i s rd ea 4 (s.byteAt ea 3 ++ s.byteAt ea 2 ++ s.byteAt ea 1 ++ s.byteAt ea 0) := by
  rw [BitVec.setWidth_eq, readValue_four] at h
  exact loads_of_loadInto h

/-! ## The statements -/

/-- Settles O24: each is `loadInto` at the effective address, and the bytes read there are 1, 2 or 4 in little-endian
order. -/
theorem loadsGiveTheBytes : Obligations.LoadsGiveTheBytes := by
  intro rd rs1 imm s ea hea
  rw [hea, ← effectiveAddr_eq_ofInt]
  refine ⟨?lbWord, loads_extended (·.signExtend 32) (readValue_one s _) rfl,
    ?lhWord, loads_extended (·.signExtend 32) (readValue_two s _) rfl,
    ?lwWord, loads_word rfl,
    ?lbuWord, loads_extended (·.setWidth 32) (readValue_one s _) rfl,
    ?lhuWord, loads_extended (·.setWidth 32) (readValue_two s _) rfl⟩
  all_goals exact decode_append_iType rfl rfl

/-- Settles O26: each is `storeFrom` at the effective address, of 1, 2 or 4 bytes of x[rs2]. -/
theorem storesWriteTheBytes : Obligations.StoresWriteTheBytes := by
  refine ⟨fun rs1 imm s => effectiveAddr_eq_ofInt s rs1 imm, fun rs1 rs2 imm s hm => ?_⟩
  refine ⟨?sbWord, stores_of_storeFrom hm (by decide) rfl,
    ?shWord, stores_of_storeFrom hm (by decide) rfl,
    ?swWord, stores_of_storeFrom hm (by decide) rfl⟩
  all_goals exact decode_append_sType rfl rfl

end Sys2Proof.Machine

/-! The fences (43_fence.md): their words, what FENCE leaves as it is and what FENCE.I makes of Dirty, and the MISC-MEM words
that the fields printed as zeros make no row of this hardware. -/

namespace Sys2Proof

/-! ## Words of FENCE as the table prints them -/

theorem decode_append_fenceType (pred succ : BitVec 4) :
    decode (0#4 ++ pred ++ succ ++ 0#5 ++ 0b000#3 ++ 0#5 ++ 0b0001111#7) = .ok (.fence pred succ) :=
  decode_of_eq_encode rfl (append_eq_fenceType pred succ 0b000#3)

/-- `fm`, `pred` and `succ` together stand where the I-immediate stands (R96). -/
theorem fm_eq_extract_iImm (w : Word) : Field.fm w = (Field.iImm w).extractLsb' 8 4 := by
  refine BitVec.eq_of_getLsbD_eq fun k hk => ?_
  have hin : 8 + k < 12 := by omega
  simp [Field.fm, Field.iImm, hk, hin, ← Nat.add_assoc]

end Sys2Proof

namespace Sys2Proof.Machine

/-! ## MISC-MEM words that are no row of this hardware -/

/-- Of the MISC-MEM words with funct3 000 and 001 only those with zeros where the table prints zeros are rows (R96, R100). -/
theorem step_illegal_of_miscMem {s : State} {imm : BitVec 12} {rs1 rd : RegId} {f3 : BitVec 3} (hs : s.FetchReady)
    (hw : s.fetchedWord = imm ++ rs1 ++ f3 ++ rd ++ 0b0001111#7)
    (hbad : (f3 = 0b000#3 ∧ (imm.extractLsb' 8 4 ≠ 0#4 ∨ rs1 ≠ 0#5 ∨ rd ≠ 0#5)) ∨
      (f3 = 0b001#3 ∧ (imm ≠ 0#12 ∨ rs1 ≠ 0#5 ∨ rd ≠ 0#5))) :
    step s = .fault (.illegalInstruction s.pc s.fetchedWord) := by
  rw [step_of_ready hs]
  refine runWord_illegal ?_ s
  rw [hw, append_eq_iType, exists_decode_iff, decodeRow, Field.opcode_iType]
  refine mt (decodeMiscMem_any_inHardware _).1 (not_not_intro (.inr ?_))
  change (_ ∧ (Field.fm _ ≠ 0#4 ∨ _)) ∨ (_ ∧ (Field.iImm _ ≠ 0#12 ∨ _))
  rwa [fm_eq_extract_iImm, Field.iImm_iType, Field.funct3_iType, Field.rs1_iType, Field.rd_iType]

/-! ## Dirty and the next fetch -/

/-- With nothing Dirty no fetch is refused for Dirty, and no later phase of a step refuses so (R63). -/
theorem step_ne_dirtyFetch {s : State} (hdirty : s.dirty = []) (p : Word) : step s ≠ .refused (.dirtyFetch p) := by
  intro h
  rcases step_refused h with ⟨-, j, -, hj⟩ | ⟨hwhy, -⟩ | ⟨-, hrun⟩
  · simp [hdirty] at hj
  · cases hwhy
  · obtain ⟨i, rs1, imm, n, -, -, hwhy, -⟩ := runWord_refused hrun
    cases hwhy

/-! ## The statements -/

/-- Settles O33: FENCE is the ordinary end of a step whatever its operands are, and inst[31:28] is the top of what would be
the I-immediate. -/
theorem fenceOnlyAdvances : Obligations.FenceOnlyAdvances := by
  refine ⟨fun pred succ s => ⟨decode_append_fenceType pred succ, s.retire, rfl, onlyAdvances_retire s⟩, ?_⟩
  intro fm pred succ rs1 rd s hzero hs hw
  have hfm : (fm ++ pred ++ succ).extractLsb' 8 4 = fm := by
    rw [BitVec.append_assoc]
    exact BitVec.extractLsb'_append_eq_left
  refine step_illegal_of_miscMem hs hw (.inl ⟨rfl, ?_⟩)
  rw [hfm]
  tauto

/-- Settles O34: FENCE.I is the ordinary end of a step at the state with Dirty emptied, and an empty Dirty refuses no
fetch. -/
theorem fenceIEmptiesDirty : Obligations.FenceIEmptiesDirty := by
  refine ⟨decode_of_eq_encode rfl (by decide), fun s => ?_, fun f rs1 rd s hzero hs hw => ?_⟩
  · obtain ⟨regs, pc, instret, cycle, time, memory, dirty, regions, draws⟩ := onlyAdvances_retire { s with dirty := [] }
    exact ⟨_, rfl, dirty, regs, pc, instret, cycle, time, memory, regions, draws, step_ne_dirtyFetch dirty⟩
  · exact step_illegal_of_miscMem hs hw (.inr ⟨rfl, by tauto⟩)

end Sys2Proof.Machine

namespace Sys2Proof.Machine

/-! ## CSR accesses that raise (44_csr_counters.md) -/

/-- The CSRs that exist are the counters (R26, R200, D15). -/
theorem csrExists_iff {a : CsrId} : csrExists a = true ↔ a ∈ counterCsrs := by
  unfold csrExists
  split
  case h_7 => simp_all [counterCsrs]
  all_goals simp [counterCsrs]

/-- The test of R202 and R205 on the source field: the form writes where the field is not zero. -/
theorem fieldSet_iff {f : BitVec 5} : fieldSet f = true ↔ f ≠ 0#5 := decide_eq_true_iff

/-- An access to an absent CSR and an access that writes raise, with the word the instruction is encoded as (R200). -/
theorem csrAccess_illegal {i : Instr} {rd : RegId} {csr : CsrId} {reads writes : Bool} {new : Word → Word} {s : State}
    {w : Word} (h : csr ∉ counterCsrs ∨ writes = true) (hw : w = encode i) :
    csrAccess i rd csr reads writes new s = .fault (.illegalInstruction s.pc w) := by
  rw [← csrExists_iff, Bool.not_eq_true] at h
  exact csrAccess_fault.2 ⟨h, hw ▸ rfl⟩

/-! ## The statements -/

/-- Settles O37: CSRRW and CSRRWI always ask to write, the other four where their source field is not zero, and no CSR can
be written. -/
theorem csrWritesAndAbsentCsrsAreIllegal : Obligations.CsrWritesAndAbsentCsrsAreIllegal := by
  intro rd f csr s
  have word (f3 : BitVec 3) : csr ++ f ++ f3 ++ rd ++ 0b1110011#7 = iType csr f f3 rd 0b1110011#7 :=
    append_eq_iType ..
  have field (h : csr ∉ counterCsrs ∨ f ≠ 0#5) : csr ∉ counterCsrs ∨ fieldSet f = true := h.imp_right fieldSet_iff.2
  simp only [exec, execCsrrw, execCsrrwi, execCsrrs, execCsrrc, execCsrrsi, execCsrrci]
  exact ⟨decode_append_iType rfl rfl, csrAccess_illegal (.inr rfl) (word _),
    decode_append_iType rfl rfl, csrAccess_illegal (.inr rfl) (word _),
    fun h => csrAccess_illegal (field h) (word _), fun h => csrAccess_illegal (field h) (word _),
    fun h => csrAccess_illegal (field h) (word _), fun h => csrAccess_illegal (field h) (word _)⟩

end Sys2Proof.Machine

/-! The M extension (46_muldiv.md): the halves of a product and the product they make, quotients and remainders with Table 6.1,
and the words; then the RV64 rows, which are listed only (47_listed_only.md). -/

namespace Sys2Proof.Machine

/-! ## The halves of a product (R241 to R244, R250) -/

theorem ofInt_toNat (a : Word) : BitVec.ofInt 32 (a.toNat : Int) = a := by
  rw [BitVec.ofInt_natCast, BitVec.ofNat_toNat, BitVec.setWidth_eq]

/-- Bits 63 to 32 of a product, of any sign, are its floor by 2^32. -/
theorem upperProduct_eq_ofInt (p : Int) : upperProduct p = BitVec.ofInt 32 (p / 2 ^ 32) := by
  apply BitVec.eq_of_toNat_eq
  simp only [upperProduct, BitVec.extractLsb'_toNat, BitVec.toNat_ofInt, Nat.shiftRight_eq_div_pow]
  omega

theorem upperProduct_append_ofInt (p : Int) : upperProduct p ++ BitVec.ofInt 32 p = BitVec.ofInt 64 p := by
  have hlow : BitVec.ofInt 32 p = (BitVec.ofInt 64 p).extractLsb' 0 32 := by
    apply BitVec.eq_of_toNat_eq
    simp only [BitVec.extractLsb'_toNat, BitVec.toNat_ofInt, Nat.shiftRight_zero]
    omega
  rw [hlow, upperProduct, BitVec.extractLsb'_append_extractLsb'_eq_extractLsb' (start₂ := 32) (start₁ := 0) rfl]
  exact BitVec.extractLsb'_eq_self

section
variable (a b : Word)

/-- The low half does not depend on which operands are read as signed (R241). -/
theorem mulLow_eq_mul : mulLow a b = a * b := by
  rw [mulLow, BitVec.ofInt_mul, BitVec.ofInt_toInt, BitVec.ofInt_toInt]

theorem mulLow_eq_ofInt_toInt_mul_toNat : mulLow a b = BitVec.ofInt 32 (a.toInt * (b.toNat : Int)) := by
  rw [mulLow_eq_mul, BitVec.ofInt_mul, BitVec.ofInt_toInt, ofInt_toNat]

theorem mulLow_eq_ofNat : mulLow a b = BitVec.ofNat 32 (a.toNat * b.toNat) := by
  rw [mulLow_eq_mul, BitVec.ofNat_mul, BitVec.ofNat_toNat, BitVec.ofNat_toNat, BitVec.setWidth_eq, BitVec.setWidth_eq]

theorem mulHighUnsigned_eq_ofNat : mulHighUnsigned a b = BitVec.ofNat 32 (a.toNat * b.toNat / 2 ^ 32) := by
  rw [mulHighUnsigned, upperProduct_eq_ofInt, ← BitVec.ofInt_natCast]
  norm_cast

theorem mulHighSigned_append_mulLow : mulHighSigned a b ++ mulLow a b = BitVec.ofInt 64 (a.toInt * b.toInt) :=
  upperProduct_append_ofInt _

theorem mulHighSignedUnsigned_append_mulLow :
    mulHighSignedUnsigned a b ++ mulLow a b = BitVec.ofInt 64 (a.toInt * (b.toNat : Int)) := by
  rw [mulLow_eq_ofInt_toInt_mul_toNat]
  exact upperProduct_append_ofInt _

theorem mulHighUnsigned_append_mulLow : mulHighUnsigned a b ++ mulLow a b = BitVec.ofNat 64 (a.toNat * b.toNat) := by
  rw [mulLow_eq_ofNat, ← BitVec.ofInt_natCast, ← BitVec.ofInt_natCast, Nat.cast_mul]
  exact upperProduct_append_ofInt _

/-! The three products fit in 64 bits, so that their halves lose nothing: a signed operand is at most 2^31 in absolute value,
an unsigned one below 2^32. -/

theorem abs_toInt_le : |a.toInt| ≤ 2 ^ 31 := abs_le.2 ⟨a.le_toInt, a.toInt_lt.le⟩

theorem toInt_ofInt_toInt_mul {n : Int} (hn : |n| ≤ 2 ^ 32 - 1) :
    (BitVec.ofInt 64 (a.toInt * n)).toInt = a.toInt * n := by
  have hbound : |a.toInt * n| ≤ 2 ^ 31 * (2 ^ 32 - 1) :=
    abs_mul a.toInt n ▸ mul_le_mul (abs_toInt_le a) hn (abs_nonneg n) (by decide)
  obtain ⟨hlow, hhigh⟩ := abs_le.1 hbound
  exact BitVec.toInt_ofInt_eq_self (by decide) (by omega) (by omega)

theorem toInt_ofInt_toInt_mul_toInt : (BitVec.ofInt 64 (a.toInt * b.toInt)).toInt = a.toInt * b.toInt :=
  toInt_ofInt_toInt_mul a ((abs_toInt_le b).trans (by decide))

theorem toInt_ofInt_toInt_mul_toNat :
    (BitVec.ofInt 64 (a.toInt * (b.toNat : Int))).toInt = a.toInt * (b.toNat : Int) := by
  refine toInt_ofInt_toInt_mul a ?_
  rw [Nat.abs_cast]
  omega

theorem toNat_ofNat_toNat_mul_toNat : (BitVec.ofNat 64 (a.toNat * b.toNat)).toNat = a.toNat * b.toNat := by
  have hab : a.toNat * b.toNat < 2 ^ 32 * 2 ^ 32 := Nat.mul_lt_mul'' a.isLt b.isLt
  exact (BitVec.toNat_ofNat ..).trans (Nat.mod_eq_of_lt hab)

end

/-! ## Quotients and remainders (R245 to R250, Table 6.1) -/

section
variable {a b : Word}

@[simp] theorem divUnsigned_zero (a : Word) : divUnsigned a 0#32 = 0xFFFFFFFF#32 := rfl

@[simp] theorem divSigned_zero (a : Word) : divSigned a 0#32 = 0xFFFFFFFF#32 := rfl

@[simp] theorem remUnsigned_zero (a : Word) : remUnsigned a 0#32 = a := rfl

@[simp] theorem remSigned_zero (a : Word) : remSigned a 0#32 = a := rfl

/-- The remainder that the model gives as dividend minus divisor times quotient is the library's. -/
theorem remSigned_eq_tmod (a b : Word) : remSigned a b =
    if b = 0#32 then a
    else if a = 0x80000000#32 ∧ b = 0xFFFFFFFF#32 then 0#32
    else BitVec.ofInt 32 (a.toInt.tmod b.toInt) := by
  rw [Int.tmod_def, remSigned]

theorem toNat_divUnsigned (hb : b ≠ 0#32) : (divUnsigned a b).toNat = a.toNat / b.toNat := by
  rw [divUnsigned, if_neg hb, ← BitVec.udiv_def, BitVec.toNat_udiv]

theorem toNat_remUnsigned (a b : Word) : (remUnsigned a b).toNat = a.toNat % b.toNat := by
  unfold remUnsigned
  split
  next hb => simp [hb]
  next => rw [← BitVec.umod_def, BitVec.toNat_umod]

/-- Where Table 6.1 does not speak the exact quotient fits in 32 bits. -/
theorem toInt_divSigned (hb : b ≠ 0#32) (ho : ¬(a = 0x80000000#32 ∧ b = 0xFFFFFFFF#32)) :
    (divSigned a b).toInt = a.toInt.tdiv b.toInt := by
  rw [divSigned, if_neg hb, if_neg ho, ← BitVec.toInt_sdiv_of_ne_or_ne a b (not_and_or.1 ho), BitVec.ofInt_toInt]

theorem toInt_remSigned (hb : b ≠ 0#32) (ho : ¬(a = 0x80000000#32 ∧ b = 0xFFFFFFFF#32)) :
    (remSigned a b).toInt = a.toInt.tmod b.toInt := by
  rw [remSigned_eq_tmod, if_neg hb, if_neg ho, ← BitVec.toInt_srem, BitVec.ofInt_toInt]

theorem divUnsigned_mul_add_remUnsigned (a b : Word) : divUnsigned a b * b + remUnsigned a b = a := by
  by_cases hb : b = 0#32
  · simp [hb]
  · apply BitVec.eq_of_toNat_eq
    rw [BitVec.toNat_add, BitVec.toNat_mul, toNat_divUnsigned hb, toNat_remUnsigned, Nat.mod_add_mod, Nat.div_add_mod',
      Nat.mod_eq_of_lt a.isLt]

theorem divSigned_mul_add_remSigned (a b : Word) : divSigned a b * b + remSigned a b = a := by
  by_cases hb : b = 0#32
  · simp [hb]
  by_cases ho : a = 0x80000000#32 ∧ b = 0xFFFFFFFF#32
  · obtain ⟨rfl, rfl⟩ := ho
    decide
  · apply BitVec.eq_of_toInt_eq
    rw [BitVec.toInt_add, BitVec.toInt_mul, toInt_divSigned hb ho, toInt_remSigned hb ho, Int.bmod_add_bmod,
      Int.tdiv_mul_add_tmod, BitVec.toInt_bmod_cancel]

/-- A remainder of the division toward zero is 0 or has the dividend's sign. -/
theorem tmod_eq_zero_or_neg_iff (m n : Int) : m.tmod n = 0 ∨ (m.tmod n < 0 ↔ m < 0) := by
  have hsign := Int.sign_tmod m n
  split at hsign
  next => exact .inl (Int.sign_eq_zero_iff_zero.1 hsign)
  next => exact .inr (by rw [← Int.sign_eq_neg_one_iff_neg, hsign, Int.sign_eq_neg_one_iff_neg])

end

/-! ## The statements -/

/-- Settles O16: the high halves are floors by 2^32, and the low half is the same for operands of either sign. -/
theorem multiply : Obligations.Multiply := by
  intro rd rs1 rs2 s
  refine ⟨?_, yields_of_eq rfl (mulLow_eq_ofNat _ _), ?_, yields_of_eq rfl (upperProduct_eq_ofInt _), ?_,
    yields_of_eq rfl (upperProduct_eq_ofInt _), ?_, yields_of_eq rfl (mulHighUnsigned_eq_ofNat _ _)⟩
  all_goals exact decode_append_rType rfl rfl

/-- Settles O17: the meanings have the rows of Table 6.1 as cases, and the model's remainder is the one of rounding toward
zero. -/
theorem divide : Obligations.Divide := by
  intro rd rs1 rs2 s
  refine ⟨?_, yields_of_retireWith rfl, ?_, yields_of_retireWith rfl, ?_, yields_of_eq rfl (remSigned_eq_tmod _ _), ?_,
    yields_of_retireWith rfl⟩
  all_goals exact decode_append_rType rfl rfl

/-- Settles O18: the halves side by side are the product in 64 bits, which it fits; -1 and 1 tell the operands of MULHSU
apart. -/
theorem productHalvesMakeTheProduct : Obligations.ProductHalvesMakeTheProduct := by
  refine ⟨fun a b => ⟨?unsigned, ?signed, ?signedUnsigned, ?low, ?highSigned, ?highUnsigned⟩,
    0xFFFFFFFF#32, 1#32, by decide⟩
  case unsigned => rw [mulHighUnsigned_append_mulLow, toNat_ofNat_toNat_mul_toNat]
  case signed => rw [mulHighSigned_append_mulLow, toInt_ofInt_toInt_mul_toInt]
  case signedUnsigned => rw [mulHighSignedUnsigned_append_mulLow, toInt_ofInt_toInt_mul_toNat]
  case low => rw [mulLow, mulLow, mul_comm]
  case highSigned => rw [mulHighSigned, mulHighSigned, mul_comm]
  case highUnsigned => rw [mulHighUnsigned, mulHighUnsigned, mul_comm]

/-- Settles O19: away from Table 6.1 the laws are those of `/` and `%` on Nat and of `tdiv` and `tmod` on Int. -/
theorem quotientAndRemainderLaws : Obligations.QuotientAndRemainderLaws := by
  refine fun a b => ⟨divUnsigned_mul_add_remUnsigned a b, divSigned_mul_add_remSigned a b, fun hb => ?unsigned,
    fun hb ho => ?signed⟩
  case unsigned =>
    rw [toNat_divUnsigned hb, toNat_remUnsigned]
    exact ⟨Nat.div_add_mod' _ _, Nat.mod_lt _ (BitVec.toNat_pos_of_ne_zero hb)⟩
  case signed =>
    rw [toInt_divSigned hb ho, toInt_remSigned hb ho, Int.natAbs_tmod]
    have hpos : 0 < b.toInt.natAbs := Int.natAbs_pos.2 fun h => hb (BitVec.toInt_inj.1 (h.trans BitVec.toInt_zero.symm))
    exact ⟨Int.tdiv_mul_add_tmod _ _, Nat.mod_lt _ hpos, tmod_eq_zero_or_neg_iff _ _⟩

/-- Settles O42: the two groups are among the listed-only ones, whose rows have no meaning here but the exception. -/
theorem rv64RowsAreIllegal : Obligations.Rv64RowsAreIllegal := by
  intro i s h
  have hlisted : (rowGroup i).listedOnly = true := by rcases h with h | h <;> rw [h] <;> rfl
  rw [exec_of_listedOnly hlisted, illegal_eq]

end Sys2Proof.Machine

/-! The A, F and D rows, 32- and 64-bit, are listed in the table but are not of this hardware (R270-R278). -/

namespace Sys2Proof.Machine

/-- Two groups of listed-only rows raise with the encoded word: a row of either has no meaning here but the exception
(R270, R302). -/
theorem exec_illegalInstruction_of_rowGroup {g g' : Group} (hg : g.listedOnly = true) (hg' : g'.listedOnly = true)
    {i : Instr} (s : State) (h : rowGroup i = g ∨ rowGroup i = g') :
    exec i s = .fault (.illegalInstruction s.pc (encode i)) := by
  have hlisted : (rowGroup i).listedOnly = true := by
    obtain h | h := h
    · rw [h, hg]
    · rw [h, hg']
  rw [exec_of_listedOnly hlisted, illegal_eq]

/-- Settles O43: the RV32A and RV64A groups are listed only. -/
theorem atomicRowsAreIllegal : Obligations.AtomicRowsAreIllegal :=
  fun _ s => exec_illegalInstruction_of_rowGroup rfl rfl s

/-- Settles O44: the RV32F and RV64F groups are listed only. -/
theorem singleFloatRowsAreIllegal : Obligations.SingleFloatRowsAreIllegal :=
  fun _ s => exec_illegalInstruction_of_rowGroup rfl rfl s

/-- Settles O45: the RV32D and RV64D groups are listed only. -/
theorem doubleFloatRowsAreIllegal : Obligations.DoubleFloatRowsAreIllegal :=
  fun _ s => exec_illegalInstruction_of_rowGroup rfl rfl s

end Sys2Proof.Machine

/-! Exceptions (60_exceptions.md) and placing a program (70_reset_and_hazards.md): each instruction with the records it can
raise and no others (`Raises`), the phase of a step that raised, the words that are illegal, and the fetch of a word placed. -/

namespace Sys2Proof.Machine

/-! ## What an instruction can raise (table R301-T) -/

/-- The number a CSR instruction names, and whether its form writes (R201 to R206). -/
def csrUse : Instr → Option (CsrId × Bool)
  | .csrrw _ csr _ | .csrrwi _ csr _ => some (csr, true)
  | .csrrs _ csr f | .csrrc _ csr f | .csrrsi _ csr f | .csrrci _ csr f => some (csr, fieldSet f)
  | _ => none

/-- An instruction that raises IllegalInstruction in every state: a listed-only row, or a CSR instruction that names an
absent CSR or would write (R302). -/
def RaisesIllegal (i : Instr) : Prop :=
  (rowGroup i).listedOnly = true ∨ ∃ csr writes, csrUse i = some (csr, writes) ∧ (csr ∉ counterCsrs ∨ writes = true)

/-- The records that instruction `i` raises in state `s`, one constructor for each cause that execution has. -/
inductive Raises (i : Instr) (s : State) : Fault → Prop where
  | misalignedTarget (target : Word) (htaken : takenTarget s i = some target) (hna : ¬ Aligned target) :
      Raises i s (.instructionAddressMisaligned s.pc target)
  | illegalLoad (rs1 : RegId) (imm : BitVec 12) (n : Nat) (hacc : loadAccess i = some (rs1, imm, n))
      (hl : ¬ s.BytesLegal .load (effectiveAddr s rs1 imm) n) :
      Raises i s (.loadAccessFault s.pc (effectiveAddr s rs1 imm))
  | illegalStore (rs1 : RegId) (imm : BitVec 12) (n : Nat) (hacc : storeAccess i = some (rs1, imm, n))
      (hl : ¬ s.BytesLegal .store (effectiveAddr s rs1 imm) n) :
      Raises i s (.storeAccessFault s.pc (effectiveAddr s rs1 imm))
  | illegalInstruction (h : RaisesIllegal i) : Raises i s (.illegalInstruction s.pc (encode i))
  | ecall (hi : i = .ecall) : Raises i s (.environmentCall s.pc 0#32)
  | ebreak (hi : i = .ebreak) : Raises i s (.breakpoint s.pc s.pc)

/-- A transfer that is made is a jump to its target or a taken branch to it (R151 to R158). -/
theorem exec_of_takenTarget {i : Instr} {s : State} {target : Word} (h : takenTarget s i = some target) :
    (∃ rd, exec i s = jumpAndLink rd target s) ∨ exec i s = branchIf true target s := by
  have branch {taken : Bool} {target' : Word} (h : (if taken then some target' else none) = some target) :
      branchIf taken target' s = branchIf true target s := by
    cases taken <;> cases h
    rfl
  cases i
  case jal | jalr => cases h; exact .inl ⟨_, rfl⟩
  case beq => exact .inr (branch ((takenTarget_beq ..).symm.trans h))
  case bne => exact .inr (branch ((takenTarget_bne ..).symm.trans h))
  case blt => exact .inr (branch ((takenTarget_blt ..).symm.trans h))
  case bge => exact .inr (branch ((takenTarget_bge ..).symm.trans h))
  case bltu => exact .inr (branch ((takenTarget_bltu ..).symm.trans h))
  case bgeu => exact .inr (branch ((takenTarget_bgeu ..).symm.trans h))
  all_goals cases h

/-- The six CSR instructions are `csrAccess` of the number they name (R200). -/
theorem exec_of_csrUse {i : Instr} {csr : CsrId} {writes : Bool} (h : csrUse i = some (csr, writes)) (s : State) :
    ∃ rd reads new, exec i s = csrAccess i rd csr reads writes new s := by
  cases i
  case csrrw | csrrs | csrrc | csrrwi | csrrsi | csrrci =>
    cases h
    simp only [exec, execCsrrw, execCsrrs, execCsrrc, execCsrrwi, execCsrrsi, execCsrrci]
    exact ⟨_, _, _, rfl⟩
  all_goals cases h

section
variable {i : Instr} {s : State} {r : Fault}

/-! The shared operations raise what `Raises` lists, in the operands that `exec` hands them. -/

theorem raises_of_jumpAndLink {rd : RegId} {target : Word} (h : jumpAndLink rd target s = .fault r)
    (htaken : takenTarget s i = some target) : Raises i s r := by
  obtain ⟨hna, rfl⟩ := jumpAndLink_fault.1 h
  exact .misalignedTarget target htaken (misaligned_iff.1 hna)

theorem raises_of_branchIf {taken : Bool} {target : Word} (h : branchIf taken target s = .fault r)
    (htaken : takenTarget s i = if taken then some target else none) : Raises i s r := by
  obtain ⟨rfl, hna, rfl⟩ := branchIf_fault.1 h
  exact .misalignedTarget target htaken (misaligned_iff.1 hna)

theorem raises_of_loadInto {rd rs1 : RegId} {imm : BitVec 12} {n : Nat} {v : Word}
    (h : loadInto rd (effectiveAddr s rs1 imm) n v s = .fault r) (hacc : loadAccess i = some (rs1, imm, n)) :
    Raises i s r := by
  obtain ⟨hl, rfl⟩ := loadInto_fault.1 h
  exact .illegalLoad rs1 imm n hacc (accessLegal_eq_false_iff.1 hl)

theorem raises_of_storeFrom {rs1 : RegId} {imm : BitVec 12} {n : Nat} {v : Word}
    (h : storeFrom (effectiveAddr s rs1 imm) n v s = .fault r) (hacc : storeAccess i = some (rs1, imm, n)) :
    Raises i s r := by
  obtain ⟨hl, rfl⟩ := storeFrom_fault.1 h
  exact .illegalStore rs1 imm n hacc (accessLegal_eq_false_iff.1 hl)

theorem raises_of_csrAccess {rd : RegId} {csr : CsrId} {reads writes : Bool} {new : Word → Word}
    (h : csrAccess i rd csr reads writes new s = .fault r) (huse : csrUse i = some (csr, writes)) : Raises i s r := by
  obtain ⟨hbad, rfl⟩ := csrAccess_fault.1 h
  rw [← Bool.not_eq_true, csrExists_iff] at hbad
  exact .illegalInstruction (.inr ⟨csr, writes, huse, hbad⟩)

/-- Execution raises nothing but what `Raises` lists. -/
theorem raises_of_exec (h : exec i s = .fault r) : Raises i s r := by
  cases i <;> simp only [exec] at h
  case jal | jalr => exact raises_of_jumpAndLink h rfl
  case beq => exact raises_of_branchIf h (takenTarget_beq ..)
  case bne => exact raises_of_branchIf h (takenTarget_bne ..)
  case blt => exact raises_of_branchIf h (takenTarget_blt ..)
  case bge => exact raises_of_branchIf h (takenTarget_bge ..)
  case bltu => exact raises_of_branchIf h (takenTarget_bltu ..)
  case bgeu => exact raises_of_branchIf h (takenTarget_bgeu ..)
  case lb | lh | lw | lbu | lhu => exact raises_of_loadInto h rfl
  case sb | sh | sw => exact raises_of_storeFrom h rfl
  case csrrw | csrrs | csrrc | csrrwi | csrrsi | csrrci => exact raises_of_csrAccess h rfl
  case ecall => cases h; exact .ecall rfl
  case ebreak => cases h; exact .ebreak rfl
  case lui | auipc | addi | slti | sltiu | xori | ori | andi | slli | srli | srai | add | sub | sll | slt | sltu | xor |
      srl | sra | or | and | mul | mulh | mulhsu | mulhu | div | divu | rem | remu | fence | fenceI => cases h
  all_goals
    cases h
    exact .illegalInstruction (.inl rfl)

/-- What `Raises` lists is raised. -/
theorem Raises.exec_eq (h : Raises i s r) : exec i s = .fault r := by
  cases h with
  | misalignedTarget target htaken hna =>
    have hmis := misaligned_iff.2 hna
    rcases exec_of_takenTarget htaken with ⟨rd, hx⟩ | hx
    · exact hx.trans (jumpAndLink_fault.2 ⟨hmis, rfl⟩)
    · exact hx.trans (branchIf_fault.2 ⟨rfl, hmis, rfl⟩)
  | illegalLoad rs1 imm n hacc hl =>
    obtain ⟨rd, v, hx⟩ := exec_of_loadAccess hacc s
    exact hx.trans (loadInto_fault.2 ⟨accessLegal_eq_false_iff.2 hl, rfl⟩)
  | illegalStore rs1 imm n hacc hl =>
    obtain ⟨v, hx⟩ := exec_of_storeAccess hacc s
    exact hx.trans (storeFrom_fault.2 ⟨accessLegal_eq_false_iff.2 hl, rfl⟩)
  | illegalInstruction h =>
    rcases h with hlisted | ⟨csr, writes, huse, hbad⟩
    · exact exec_of_listedOnly hlisted s
    · obtain ⟨rd, reads, new, hx⟩ := exec_of_csrUse huse s
      exact hx.trans (csrAccess_illegal hbad rfl)
  | ecall hi => subst hi; rfl
  | ebreak hi => subst hi; rfl

theorem exec_fault_iff : exec i s = .fault r ↔ Raises i s r := ⟨raises_of_exec, Raises.exec_eq⟩

/-- The pc recorded is that of the instruction (R309). -/
theorem Raises.pc_eq (h : Raises i s r) : r.pc = s.pc := by cases h <;> rfl

theorem exec_illegalInstruction_iff {p w : Word} :
    exec i s = .fault (.illegalInstruction p w) ↔ p = s.pc ∧ w = encode i ∧ RaisesIllegal i := by
  rw [exec_fault_iff]
  constructor
  · intro h
    cases h with
    | illegalInstruction h => exact ⟨rfl, rfl, h⟩
  · rintro ⟨rfl, rfl, h⟩
    exact .illegalInstruction h

end

theorem raises_breakpoint_iff {i : Instr} {s : State} {p v : Word} :
    Raises i s (.breakpoint p v) ↔ i = .ebreak ∧ p = s.pc ∧ v = s.pc := by
  constructor
  · intro h
    cases h with
    | ebreak hi => exact ⟨hi, rfl, rfl⟩
  · rintro ⟨rfl, rfl, rfl⟩
    exact .ebreak rfl

/-- No instruction raises InstructionAccessFault: it is a cause of the fetch alone (R304). -/
theorem exec_ne_instructionAccessFault (i : Instr) (s : State) (p v : Word) :
    exec i s ≠ .fault (.instructionAccessFault p v) := fun h => nomatch raises_of_exec h

/-! ## Which phase of a step raised (R9, R311) -/

/-- A word raises what its instruction raises, and IllegalInstruction with itself if it decodes to none. -/
theorem runWord_fault {s : State} {w : Word} {r : Fault} (h : runWord s w = .fault r) :
    (∃ i, decode w = .ok i ∧ Raises i s r) ∨ ((∀ i, decode w ≠ .ok i) ∧ r = .illegalInstruction s.pc w) := by
  unfold runWord at h
  split at h
  next i hi => exact .inl ⟨i, hi, raises_of_exec h⟩
  next e he => exact .inr ⟨by simp [he], (Host.Outcome.fault.inj h).symm⟩

/-- The phases a step can raise in: the fetch of a misaligned pc, the fetch of a byte not legal, and the word fetched. -/
theorem step_fault {s : State} {r : Fault} (h : step s = .fault r) :
    (¬ Aligned s.pc ∧ r = .instructionAddressMisaligned s.pc s.pc) ∨
    (¬ s.BytesLegal .fetch s.pc 4 ∧ r = .instructionAccessFault s.pc s.pc) ∨
    (s.FetchReady ∧ runWord s s.fetchedWord = .fault r) := by
  rcases step_cases s with ⟨ha, e⟩ | ⟨-, hl, e⟩ | ⟨-, -, -, e⟩ | ⟨-, -, -, -, e⟩ | ⟨hready, e⟩ <;> rw [e] at h
  · exact .inl ⟨ha, (Host.Outcome.fault.inj h).symm⟩
  · exact .inr (.inl ⟨hl, (Host.Outcome.fault.inj h).symm⟩)
  · cases h
  · cases h
  · exact .inr (.inr ⟨hready, h⟩)

/-- A fetch that is aligned raises for a byte not legal, whatever the bytes are (R52, R304). -/
theorem step_of_fetchIllegal {s : State} (ha : Aligned s.pc) (hl : ¬ s.BytesLegal .fetch s.pc 4) :
    step s = .fault (.instructionAccessFault s.pc s.pc) := by
  simp [step, fetchThen, misaligned_eq_false_iff.2 ha, accessLegal_eq_false_iff.2 hl, raise]

/-- The pc of a record is that of the step, whichever phase raised (R309). -/
theorem fault_pc_of_step {s : State} {r : Fault} (h : step s = .fault r) : r.pc = s.pc := by
  rcases step_fault h with ⟨-, rfl⟩ | ⟨-, rfl⟩ | ⟨-, h⟩
  · rfl
  · rfl
  · rcases runWord_fault h with ⟨i, -, hr⟩ | ⟨-, rfl⟩
    · exact hr.pc_eq
    · rfl

/-- A step that raises ends the run, the state before it handed over (R309, R310). -/
theorem run_of_step_fault {s : State} {r : Fault} (h : step s = .fault r) (k : Nat) : run (k + 1) s = .trapped r s := by
  simp [run, h]

/-- An instruction fetched that raises ends the run likewise. -/
theorem run_of_exec_fault {i : Instr} {s : State} {r : Fault} (hs : s.FetchReady) (hi : decode s.fetchedWord = .ok i)
    (h : exec i s = .fault r) (k : Nat) : run (k + 1) s = .trapped r s :=
  run_of_step_fault ((step_of_decode hs hi).trans h) k

/-- A jump to an aligned target completes whether or not the target can be fetched, and the next step's fetch raises
there (R304). -/
theorem step_after_jump {i : Instr} {s : State} {rd : RegId} {target : Word} (h : exec i s = jumpAndLink rd target s)
    (ha : Aligned target) (hl : ¬ s.BytesLegal .fetch target 4) :
    ∃ t, exec i s = .next t ∧ t.instret = s.instret + 1#64 ∧ (rd ≠ 0#5 → t.reg rd = s.pc + 4#32) ∧
      step t = .fault (.instructionAccessFault target target) := by
  obtain ⟨t, hx, hw⟩ := (jumps_of_jumpAndLink h).1 ha
  refine ⟨t, hx, hw.instret, hw.value, ?_⟩
  obtain rfl := hw.pc
  refine step_of_fetchIllegal ha ?_
  rwa [State.BytesLegal, State.legal_congr hw.regions]

/-! ## The words that are illegal (R302) -/

/-- A word of a CSR instruction that names an absent CSR or would write, by its fields. -/
def illegalCsrWord (w : Word) : Prop :=
  Field.opcode w = 0b1110011#7 ∧ Field.funct3 w ≠ 0b000#3 ∧ Field.funct3 w ≠ 0b100#3 ∧
    (w.extractLsb' 20 12 ∉ counterCsrs ∨ Field.funct3 w = 0b001#3 ∨ Field.funct3 w = 0b101#3 ∨ Field.rs1 w ≠ 0#5)

theorem matchesTable_iff {w : Word} : matchesTable w ↔ ∃ i, decode w = .ok i ∧ (rowGroup i).listedOnly = false := by
  constructor
  · rintro ⟨j, hj, hw⟩
    obtain ⟨i, hi, hlisted, -⟩ := decode_of_rowMatch hj hw
    exact ⟨i, hi, hlisted⟩
  · rintro ⟨i, hi, hlisted⟩
    exact ⟨i, hlisted, rowMatch_of_decode hi⟩

/-- The fields of a CSR instruction's word that say what it accesses and whether it writes. -/
theorem illegalCsrWord_encode_iff {i : Instr} {csr : CsrId} {writes : Bool} (h : csrUse i = some (csr, writes)) :
    illegalCsrWord (encode i) ↔ csr ∉ counterCsrs ∨ writes = true := by
  change (_ ∧ _ ∧ _ ∧ (Field.iImm _ ∉ counterCsrs ∨ _)) ↔ _
  cases i
  case csrrw | csrrs | csrrc | csrrwi | csrrsi | csrrci => cases h; simp [encode, fieldSet]
  all_goals cases h

/-- The SYSTEM words with a funct3 other than 000 and 100 are CSR instructions (R95). -/
theorem exists_csrUse_of_illegalCsrWord {w : Word} (h : illegalCsrWord w) :
    ∃ i csr writes, decode w = .ok i ∧ csrUse i = some (csr, writes) := by
  obtain ⟨hop, h0, h4, -⟩ := h
  rcases funct3_cases (Field.funct3 w) with h3 | h3 | h3 | h3 | h3 | h3 | h3 | h3
  case inl => exact absurd h3 h0
  case inr.inr.inr.inr.inl => exact absurd h3 h4
  all_goals
    simp only [decode_eq_ok, decodeRow, hop, decodeSystem, h3]
    exact ⟨_, _, _, rfl, rfl⟩

/-- The illegal words are those whose instruction, if they have one, raises IllegalInstruction in every state. -/
theorem illegalWord_iff {w : Word} :
    ¬ matchesTable w ∨ illegalCsrWord w ↔ ∀ i, decode w = .ok i → RaisesIllegal i := by
  constructor
  · rintro (hno | hcsr) i hi
    · exact .inl (Bool.eq_true_of_not_eq_false fun hf => hno (matchesTable_iff.2 ⟨i, hi, hf⟩))
    · obtain ⟨j, csr, writes, hj, huse⟩ := exists_csrUse_of_illegalCsrWord hcsr
      obtain rfl : j = i := Except.ok.inj (hj.symm.trans hi)
      rw [← encode_of_decode hi] at hcsr
      exact .inr ⟨csr, writes, huse, (illegalCsrWord_encode_iff huse).1 hcsr⟩
  · intro h
    by_cases hm : matchesTable w
    · obtain ⟨i, hi, hlisted⟩ := matchesTable_iff.1 hm
      rcases h i hi with hlisted' | ⟨csr, writes, huse, hbad⟩
      · simp [hlisted] at hlisted'
      · rw [← encode_of_decode hi]
        exact .inr ((illegalCsrWord_encode_iff huse).2 hbad)
    · exact .inl hm

theorem runWord_illegalInstruction_iff {s : State} {w p v : Word} :
    runWord s w = .fault (.illegalInstruction p v) ↔ p = s.pc ∧ v = w ∧ ∀ i, decode w = .ok i → RaisesIllegal i := by
  unfold runWord
  split
  next i hi =>
    rw [exec_illegalInstruction_iff, encode_of_decode hi]
    simp [hi]
  next e he => simp [he, raise, eq_comm]

/-! ECALL and EBREAK have one word each (R97). -/

theorem encode_ecall : encode .ecall = 0x00000073#32 := by decide

theorem encode_ebreak : encode .ebreak = 0x00100073#32 := by decide

/-! ## Placing a word where it is fetched (R342; log 6) -/

theorem fetchableByte_covers (s : State) (a b : Nat) : (s.fetchableByte a).covers b = true ↔ a = b := by
  simp only [Region.covers, Bool.and_eq_true, decide_eq_true_iff]
  change a ≤ b ∧ b < a + 1 ↔ a = b
  omega

/-- Of the one-byte ranges put in front of a map, that of an address speaks for it. -/
theorem find_fetchableByte {s : State} {l : List Nat} {a : Nat} (h : a ∈ l) (rest : List Region) :
    (l.map s.fetchableByte ++ rest).find? (·.covers a) = some (s.fetchableByte a) := by
  induction l with
  | nil => simp at h
  | cons b l ih =>
    by_cases hb : b = a
    · subst hb
      simp [(fetchableByte_covers s b b).2 rfl]
    · have hcovers : (s.fetchableByte b).covers a = false := by
        rw [← Bool.not_eq_true, fetchableByte_covers]
        exact hb
      simpa [hcovers] using ih (List.mem_of_ne_of_mem (Ne.symm hb) h)

/-- Where the bytes at the pc were not already fetchable, each has a range of its own after the placing. -/
theorem regionAt_placeWord {s : State} (hopen : ¬ s.fetchOpen = true) (w : Word) {a : Nat} (h : a ∈ accessAddrs s.pc 4) :
    (s.placeWord w).regionAt a = some (s.fetchableByte a) := by
  rw [State.regionAt, State.placeWord_regions, if_neg hopen]
  exact find_fetchableByte h s.regions

/-- The four bytes at the pc are legal for fetch and plain once a word is placed there. -/
theorem placeWord_fetchable (s : State) (w : Word) :
    (s.placeWord w).BytesLegal .fetch s.pc 4 ∧ (s.placeWord w).BytesPlain s.pc 4 := by
  by_cases hopen : s.fetchOpen = true
  · have hmap : (s.placeWord w).regions = s.regions := by rw [State.placeWord_regions, if_pos hopen]
    simp only [State.fetchOpen, Bool.and_eq_true, Bool.not_eq_true', accessLegal_iff, accessIO_eq_false_iff] at hopen
    rwa [State.BytesLegal, State.BytesPlain, State.legal_congr hmap, State.isIO_congr hmap]
  · have hregion (i : Nat) (hi : i < 4) := regionAt_placeWord hopen w (mem_accessAddrs_iff.2 ⟨i, hi, rfl⟩)
    refine ⟨fun i hi => ?_, fun i hi => ?_⟩
    · rw [State.legal, hregion i hi]
      rfl
    · rw [State.isIO, hregion i hi]
      rfl

/-- A fetch at an aligned pc is ready once a word is placed there. -/
theorem placeWord_fetchReady {s : State} (ha : Aligned s.pc) (w : Word) : (s.placeWord w).FetchReady := by
  obtain ⟨hl, hp⟩ := placeWord_fetchable s w
  refine ⟨ha, hl, hp, fun i hi => ?_⟩
  have : byteAddr s.pc i ∈ accessAddrs s.pc 4 := mem_accessAddrs_iff.2 ⟨i, hi, rfl⟩
  simp [this]

/-- The word fetched is the word placed (R51, R52). -/
theorem placeWord_fetchedWord {s : State} (hm : s.mem.wf) (w : Word) : (s.placeWord w).fetchedWord = w := by
  rw [← readValue_pc, State.placeWord_pc, State.placeWord_mem, Memory.readValue_writeValue hm _ le_rfl, BitVec.setWidth_eq]

theorem withFetchWord_eq (s : State) (w : Word) : s.withFetchWord 32 w.toNat = s.placeWord w := by
  rw [State.withFetchWord, Nat.mod_eq_of_lt w.isLt, BitVec.ofNat_toNat, BitVec.setWidth_eq]

/-! ## The statements -/

/-- Settles O22: of the causes that execution has, this is the one of transfers that are made. -/
theorem misalignedTargetRaisesAtTheTransfer : Obligations.MisalignedTargetRaisesAtTheTransfer := by
  refine ⟨fun i s p v => ?_, fun i s v k hs hi htaken hna =>
    run_of_exec_fault hs hi (Raises.misalignedTarget v htaken hna).exec_eq k⟩
  rw [exec_fault_iff]
  constructor
  · intro h
    cases h with
    | misalignedTarget _ htaken hna => exact ⟨htaken, hna, rfl⟩
  · rintro ⟨htaken, hna, rfl⟩
    exact .misalignedTarget v htaken hna

/-- Settles O25: of the causes that execution has, this is the one of the loads. -/
theorem loadAccessFaultExactly : Obligations.LoadAccessFaultExactly := by
  refine ⟨fun i s p v => ?_, fun i s v k hs hi h => run_of_exec_fault hs hi h k⟩
  rw [exec_fault_iff]
  constructor
  · intro h
    cases h with
    | illegalLoad rs1 imm n hacc hl => exact ⟨rs1, imm, n, hacc, rfl, rfl, hl⟩
  · rintro ⟨rs1, imm, n, hacc, rfl, rfl, hl⟩
    exact .illegalLoad rs1 imm n hacc hl

/-- Settles O27: of the causes that execution has, this is the one of the stores. -/
theorem storeAccessFaultExactly : Obligations.StoreAccessFaultExactly := by
  refine ⟨fun i s p v => ?_, fun i s v k hs hi h => run_of_exec_fault hs hi h k⟩
  rw [exec_fault_iff]
  constructor
  · intro h
    cases h with
    | illegalStore rs1 imm n hacc hl => exact ⟨rs1, imm, n, hacc, rfl, rfl, hl⟩
  · rintro ⟨rs1, imm, n, hacc, rfl, rfl, hl⟩
    exact .illegalStore rs1 imm n hacc hl

/-- Settles O40: of the causes that execution has, this is the one of ECALL. -/
theorem environmentCallByEveryEcall : Obligations.EnvironmentCallByEveryEcall := by
  refine ⟨decode_of_eq_encode rfl encode_ecall.symm, encode_ecall, fun i s p v => ?_⟩
  rw [exec_fault_iff]
  constructor
  · intro h
    cases h with
    | ecall hi => exact ⟨hi, rfl, rfl⟩
  · rintro ⟨rfl, rfl, rfl⟩
    exact .ecall rfl

/-- Settles O41: no phase of a step but the execution of EBREAK has this cause, and EBREAK has one word. -/
theorem breakpointByEveryEbreak : Obligations.BreakpointByEveryEbreak := by
  refine ⟨decode_of_eq_encode rfl encode_ebreak.symm, encode_ebreak,
    fun i s p v => exec_fault_iff.trans raises_breakpoint_iff, fun s p v => ⟨fun h => ?_, ?_⟩⟩
  · rcases step_fault h with ⟨-, hr⟩ | ⟨-, hr⟩ | ⟨hready, h⟩
    · cases hr
    · cases hr
    · rcases runWord_fault h with ⟨i, hi, hraises⟩ | ⟨-, hr⟩
      · obtain ⟨rfl, hp, hv⟩ := raises_breakpoint_iff.1 hraises
        exact ⟨hready, (encode_of_decode hi).symm.trans encode_ebreak, hp, hv⟩
      · cases hr
  · rintro ⟨hready, hword, hp, hv⟩
    have hi : decode s.fetchedWord = .ok .ebreak := decode_of_eq_encode rfl (hword.trans encode_ebreak.symm)
    exact (step_of_decode hready hi).trans (raises_breakpoint_iff.2 ⟨rfl, hp, hv⟩).exec_eq

/-- Settles O46: the fetch does not have this cause, and decode and execution raise it for the illegal words. -/
theorem illegalInstructionExactly : Obligations.IllegalInstructionExactly := by
  refine ⟨fun s p w => ⟨fun h => ?_, ?_⟩, fun s p w k h => run_of_step_fault h k⟩
  · rcases step_fault h with ⟨-, hr⟩ | ⟨-, hr⟩ | ⟨hready, h⟩
    · cases hr
    · cases hr
    · obtain ⟨hp, rfl, hall⟩ := runWord_illegalInstruction_iff.1 h
      exact ⟨hready, hp, rfl, illegalWord_iff.2 hall⟩
  · rintro ⟨hready, hp, rfl, hillegal⟩
    rw [step_of_ready hready]
    exact runWord_illegalInstruction_iff.2 ⟨hp, rfl, illegalWord_iff.1 hillegal⟩

/-- Settles O47: of the phases of a step the fetch alone has this cause, and a jump does not look at what it goes to. -/
theorem instructionAccessFaultAtTheFetch : Obligations.InstructionAccessFaultAtTheFetch := by
  refine ⟨fun s p v ha => ⟨fun h => ?_, ?_⟩, exec_ne_instructionAccessFault,
    fun i rd rs1 off imm s target hi htaken ha hl => ?_⟩
  · rcases step_fault h with ⟨hna, -⟩ | ⟨hl, hr⟩ | ⟨-, h⟩
    · exact absurd ha hna
    · obtain ⟨hp, hv⟩ := Fault.instructionAccessFault.inj hr
      exact ⟨hp, hv, hl⟩
    · rcases runWord_fault h with ⟨i, -, hraises⟩ | ⟨-, hr⟩
      · cases hraises
      · cases hr
  · rintro ⟨rfl, rfl, hl⟩
    exact step_of_fetchIllegal ha hl
  · rcases hi with rfl | rfl <;> cases htaken
    · exact step_after_jump rfl ha hl
    · exact step_after_jump rfl ha hl

/-- Settles O48: a run traps at a step that raised, and the record is that step's. -/
theorem trapRecordsArePrecise : Obligations.TrapRecordsArePrecise := by
  refine ⟨fun s r h => ⟨fault_pc_of_step h, run_of_step_fault h⟩, fun k s t r h => ?_⟩
  obtain ⟨j, -, -, hstep⟩ := run_trapped h
  exact ⟨hstep, fault_pc_of_step hstep⟩

/-- Settles O49: each phase is reached only where the one before it passed, and LW has no phase that looks at the
alignment of its address. -/
theorem phasesOrderExceptions : Obligations.PhasesOrderExceptions := by
  refine ⟨fun s => step_of_fetchIllegal, fun s e hs he => ?_, fun s i r hs hi => ?_, fun s rd rs1 imm _ hl => ?_⟩
  · rw [step_of_ready hs]
    exact runWord_illegalInstruction_iff.2 ⟨rfl, rfl, by simp [he]⟩
  · rw [step_of_decode hs hi]
  · exact (Raises.illegalLoad rs1 imm 4 rfl hl).exec_eq

/-- Settles O57: placing writes the four bytes at the pc, clears them from Dirty and makes them fetchable. -/
theorem placedWordIsFetched : Obligations.PlacedWordIsFetched := by
  intro s w hm ha
  rw [withFetchWord_eq]
  have hready := placeWord_fetchReady ha w
  have hword := placeWord_fetchedWord hm w
  refine ⟨hready, hword, fun r => rfl, rfl, rfl, rfl, rfl, fun a hout => ?_, fun i hi => ?_⟩
  · refine Memory.read_writeValue_of_not_mem hm fun hin => ?_
    obtain ⟨j, hj, hja⟩ := mem_accessAddrs_iff.1 hin
    exact hout j hj hja
  · exact step_of_decode hready (by rw [hword, hi])

end Sys2Proof.Machine
